-- ==== Sys2Proof/Word.lean ====
section
/-! DEFINITION. The block's word types: bytes, register words and command words (spec 00_scope.md R7, R9, R10).
Bit 0 is the least significant bit of every value (R9), which is Lean's own numbering of `BitVec`. -/

namespace Sys2Proof

/-- A `Byte` of spec R10: eight bits; an operand byte, a register address, a register value. -/
abbrev Byte := BitVec 8

/-- A `RegisterWord` of spec R79: sixteen bits, the address in bits 15 to 8 and the value in bits 7 to 0. -/
abbrev Word16 := BitVec 16

/-- A command word of spec R70: twenty-four bits. -/
abbrev CmdWord := BitVec 24

end Sys2Proof
end

