-- ==== Sys2Proof/Syntax.lean ====
section
/-! DEFINITION. The commands of the block, one constructor for each row of spec/opcode_table.json (30_encoding.md R75).
Each constructor holds both operand bytes of the command word, the ignored ones too, so that no bit of a command word is
lost between its encoding and its term. -/

namespace Sys2Proof

/-- A command. The two bytes are the fields `A` and `B` of the command word (R70), as they stand (R71). -/
inductive Instr where
  /-- INIT, `initialize()`: both bytes ignored (R77, R163). -/
  | init (a b : Byte)
  /-- PON, `panelOn()`: both bytes ignored (R77, R168). -/
  | pon (a b : Byte)
  /-- POFF, `panelOff()`: both bytes ignored (R77, R170). -/
  | poff (a b : Byte)
  /-- LUM, `setLuminance(n)`: `n` read unsigned, `b` ignored (R71, R77, R172). -/
  | lum (n b : Byte)
  /-- ORB, `setOrbit(h, v)`: both bytes read signed (R71, R174). -/
  | orb (h v : Byte)
  /-- PROBE, the read-back probe: both bytes ignored (R77, R175). -/
  | probe (a b : Byte)
deriving DecidableEq, Repr

end Sys2Proof
end

