-- ==== Sys2Proof/Decode.lean ====
section
/-! DEFINITION. Decoding and encoding of command words (spec 30_encoding.md R70, R71, R75, R76). Only the field `op` is
matched (R75); operand bytes are never illegal (R78). Opcode `0x06` decodes to PROBE whatever `HAS_PROBE` says; PROBE's
meaning completes as ILLEGAL where the opcode is reserved (R76; assumption log 12). -/

namespace Sys2Proof

/-- `cmd[23:16]` (R70). -/
def opField (w : CmdWord) : Byte := w.extractLsb' 16 8

/-- `cmd[15:8]` (R70). -/
def aField (w : CmdWord) : Byte := w.extractLsb' 8 8

/-- `cmd[7:0]` (R70). -/
def bField (w : CmdWord) : Byte := w.extractLsb' 0 8

/-- The command word `{op, A, B}` (R9, R70). -/
def cmdWord (op a b : Byte) : CmdWord := op ++ a ++ b

/-- Why a word decodes to no command. -/
inductive DecodeError where
  /-- Opcode `0x00` or `0x07` to `0xFF` (R76). -/
  | reservedOpcode (op : Byte)
deriving DecidableEq, Repr

/-- The command of an opcode and its two operand bytes: the opcode map R75, with the reserved opcodes of R76. -/
def decodeFields (op a b : Byte) : Except DecodeError Instr :=
  match op.toNat with
  | 1 => .ok (.init a b)
  | 2 => .ok (.pon a b)
  | 3 => .ok (.poff a b)
  | 4 => .ok (.lum a b)
  | 5 => .ok (.orb a b)
  | 6 => .ok (.probe a b)
  | _ => .error (.reservedOpcode op)

/-- The command a word stands for. -/
def decode (w : CmdWord) : Except DecodeError Instr :=
  decodeFields (opField w) (aField w) (bField w)

/-- The opcode of a command (R75). -/
def opcode : Instr → Byte
  | .init _ _ => 0x01
  | .pon _ _ => 0x02
  | .poff _ _ => 0x03
  | .lum _ _ => 0x04
  | .orb _ _ => 0x05
  | .probe _ _ => 0x06

/-- The command word of a command (R70, R75). -/
def encode : Instr → CmdWord
  | .init a b => cmdWord (opcode (.init a b)) a b
  | .pon a b => cmdWord (opcode (.pon a b)) a b
  | .poff a b => cmdWord (opcode (.poff a b)) a b
  | .lum n b => cmdWord (opcode (.lum n b)) n b
  | .orb h v => cmdWord (opcode (.orb h v)) h v
  | .probe a b => cmdWord (opcode (.probe a b)) a b

/-- The decoder's answer as an option. -/
def decode? (w : CmdWord) : Option Instr :=
  match decode w with
  | .ok i => some i
  | .error _ => none

/-- The command read from the table's word: a command is one 24-bit word, numbered as R70 numbers it. -/
def decodeTableWord (nbits w : Nat) : Option Instr :=
  decode? (BitVec.ofNat 24 (w % 2 ^ nbits))

end Sys2Proof
end

