-- ==== Sys2Proof/Config.lean ====
section
/-! DEFINITION. What an implementation fixes: the construction parameters of spec 00_scope.md R7 that the spec leaves OPEN.
They are plain data and stand in `State.params`, so every statement about all states is a statement about all parameters
(assumption log 1). The parameters to which the spec gives a value are in Machine/Constants.lean. -/

/-- A logic level (R12): `low` is 0, `high` is 1. -/
inductive Sys2Proof.Machine.Level where
  | low
  | high
deriving DecidableEq, Repr

namespace Sys2Proof

/-- `TRANSPORT` (R2, R7): the software-timed or the hardware-assisted Transport. -/
inductive Transport where
  | bitbang
  | hwspi
deriving DecidableEq, Repr

/-- `BIT_ORDER` (R7, R52; conflict C1). -/
inductive BitOrder where
  | msbFirst
  | lsbFirst
deriving DecidableEq, Repr

/-- `PROBE_WORDS` (R7, R148): four words, each with its role; their values are not in the source. -/
structure ProbeWords where
  enableRead : Word16
  setAddress : Word16
  triggerRead : Word16
  disableRead : Word16
deriving DecidableEq, Repr

/-- The two lines the bit-banged Transport moves during a byte; it touches no other (R106). -/
inductive ShiftLine where
  | data
  | clk
deriving DecidableEq, Repr

/-- One line event of `SHIFT` (R7): DATA or CLK is driven to a level. -/
structure ShiftEvent where
  line : ShiftLine
  level : Machine.Level
deriving DecidableEq, Repr

/-- The OPEN construction parameters (R7, and the list that closes 92_eei_decisions.md). `burstMap` is the value of
`BURST_MAP` on `INIT_TABLE`: the (address, value) pairs the burst leaves in the panel, where that is known (R39). `shift` is
`SHIFT`, the function from a byte to the line events of its transfer, as the table of its 256 values; `none` where it is not
given, and then `Xfer` is atomic (R106; assumption log 15). -/
structure Params where
  transport : Transport
  hasPwr : Bool
  hasProbe : Bool
  transportFaults : Bool
  initTable : List Byte
  probeWords : ProbeWords
  burstMap : Option (List (Byte × Byte))
  shift : Option (List (List ShiftEvent))
deriving DecidableEq, Repr

/-- DESIGN CHOICE (assumption log 1), unsafe: the parameters that `State.reset` is given. `HAS_PROBE` and
`TRANSPORT_FAULTS` have the spec's default, false; the table is the placeholder of 95_test_vectors.md; no statement
rests on any of these values. -/
def Params.chosen : Params where
  transport := .bitbang
  hasPwr := false
  hasProbe := false
  transportFaults := false
  initTable := [0xA1, 0xB2, 0xC3]
  probeWords := ⟨0, 0, 0, 0⟩
  burstMap := none
  shift := none

end Sys2Proof
end

