-- ==== Sys2Proof/Machine/Constants.lean ====
section
/-! DEFINITION. The parameters of spec 00_scope.md R7 that have a value, and the constant tables of 10_state.md R32 that are
not sequences of register words (those are in Machine/Encoder.lean). -/

namespace Sys2Proof.Machine

/-- `T_SETTLE` in microseconds (R7, R126). -/
def tSettle : Transport → Nat
  | .bitbang => 200
  | .hwspi => 1

/-- `T_IDLE` in microseconds (R7, R126). -/
def tIdle : Transport → Nat
  | .bitbang => 200
  | .hwspi => 1000

/-- `T_RESET` in microseconds (R7). -/
def tReset : Nat := 16000

/-- `T_PWR` in microseconds (R7; D13, C7). -/
def tPwr : Nat := 16000

/-- `LUM_MIN`, `LUM_MAX`, `LUM_DEFAULT` (R7). -/
def lumMin : Nat := 5
def lumMax : Nat := 100
def lumDefault : Nat := 15

/-- `ORB_MIN`, `ORB_MAX`, and each component of `ORB_DEFAULT` (R7). -/
def orbMin : Int := -10
def orbMax : Int := 10
def orbDefault : Int := 0

/-- `BIT_ORDER` (R7, R52; C1). -/
def bitOrder : BitOrder := .msbFirst

/-- `HW_CLOCK_HZ` (R7, R105); no rule depends on it. -/
def hwClockHz : Nat := 100000

/-- `HW_CLOCK_MODE` (R7, R105); no rule depends on it. -/
def hwClockMode : String := "clock-idle-high/data-change-on-falling-edge"

end Sys2Proof.Machine
end

