-- ==== Sys2Proof/Machine/State.lean ====
section
/-! DEFINITION. The machine's state as plain data: the block's registers and line latches (spec 10_state.md R20), the trace
(R33), the panel image (R38), the Transport port (40_transport.md R112), and the arguments of the step (R34): parameters,
the Transport's answers and the host's moves. The spec's `⊥` is `none` (00_scope.md R12, 10_state.md R21). -/

namespace Sys2Proof.Machine

/-- The line identifiers, in the order of R112. -/
inductive LineId where
  | data
  | clk
  | rst
  | cs
  | pwr
deriving DecidableEq, Repr

/-- A Transport event (R100). Durations are whole microseconds (R12). -/
inductive Event where
  /-- `SetLine(id, level)` (R101). -/
  | setLine (id : LineId) (level : Level)
  /-- `Wait(d)` (R102). -/
  | wait (d : Nat)
  /-- `Xfer(b)` (R103). -/
  | xfer (b : Byte)
deriving DecidableEq, Repr

/-- How an event was acknowledged (R101, R103, R108). -/
inductive Reply where
  | ok
  | fault
deriving DecidableEq, Repr

/-- One entry of the trace (R33): an event with the acknowledgement it got. -/
structure TraceEntry where
  event : Event
  reply : Reply
deriving DecidableEq, Repr

/-- What the Transport does about the event offered to it (R108, R112). -/
inductive Answer where
  /-- `t_ack`, with `t_fault` and the optional received byte `t_rx`. -/
  | ack (fault : Bool) (rx : Option Byte)
  /-- No acknowledgement before the step ends: the event stays offered (R203; assumption log 3). -/
  | hold
deriving DecidableEq, Repr

/-- One move of the host (R72, R220, R232; assumption log 4). -/
inductive HostMove where
  /-- `cmd_valid = 1` with this word on `cmd`, held until accepted. -/
  | present (w : CmdWord)
  /-- The reset input `rst`. -/
  | rst
  /-- The host does nothing during one step. -/
  | pass
deriving DecidableEq, Repr

/-- The sequencer position `seq` (R24). The command in flight is the one the latches hold. -/
inductive Seq where
  | idle
  /-- The next event of the command's list has this index. -/
  | running (k : Nat)
  /-- The next event of the abort procedure (R196) has this index. -/
  | aborting (k : Nat)
deriving DecidableEq, Repr

/-- `status` (R26); the code 3 is never produced and has no constructor. -/
inductive Status where
  | ok
  | fault
  | illegal
deriving DecidableEq, Repr

/-- `pstate` (R28, R29). -/
inductive PState where
  | uninit
  | reset
  | active
  | powersave
deriving DecidableEq, Repr

/-- The line latches (R30). A line that does not exist under the parameters (R8) keeps `none`. -/
structure Lines where
  data : Option Level
  clk : Option Level
  rst : Option Level
  cs : Option Level
  pwr : Option Level
deriving DecidableEq, Repr

/-- The panel's register space (R35) as a sparse list of (address, value), addresses rising; an address that is not listed
holds `⊥`. -/
abbrev Memory := List Host.Cell

/-- The state. Every field names the rule that gives it. -/
structure State where
  /-- The construction parameters (R7, R34, R42); no step changes them. -/
  params : Params
  /-- Command latch `op` (R22). -/
  op : Option Byte
  /-- Command latch `A` (R22). -/
  argA : Option Byte
  /-- Command latch `B` (R22). -/
  argB : Option Byte
  /-- Luminance shadow (R23). -/
  lum : Option Nat
  /-- Horizontal orbit shadow `orb_h` (R23). -/
  orbH : Option Int
  /-- Vertical orbit shadow `orb_v` (R23). -/
  orbV : Option Int
  /-- Sequencer position (R24). -/
  seq : Seq
  /-- A command is in flight (R25). -/
  busy : Bool
  /-- Outcome of the last completed command (R26). -/
  status : Status
  /-- Sticky fault record `fault_seen` (R27). -/
  faultSeen : Bool
  /-- Power state record (R28). -/
  pstate : PState
  /-- Line latches (R30). -/
  lines : Lines
  /-- Acknowledged Transport events since block reset, oldest first (R33). -/
  trace : List TraceEntry
  /-- The event offered to the Transport and not yet acknowledged (R112; assumption log 6). -/
  port : Option Event
  /-- The completion pulse `done` (R74; assumption log 5). -/
  done : Bool
  /-- The panel image (R38). -/
  preg : Memory
  /-- The model's own: no undefined condition of the panel stands (R38, U2, U4, U6; assumption log 7). -/
  panelKnown : Bool
  /-- The Transport's next answers, in order (R108). -/
  answers : List Answer
  /-- The Transport's every answer after those (R108; assumption log 3). -/
  answerRest : Answer
  /-- The host's moves still to come (R232). -/
  host : List HostMove
deriving DecidableEq, Repr

/-- Why the machine stops with a fault. The spec's own faults (R190, R194) are completions of a command and next states, not
stops. -/
inductive Fault where
  /-- Raised by `step` alone, in a state with `busy = 1` whose latches hold no command of the table. No run from reset
  reaches such a state; safe (assumption log 13). -/
  | noCommandInFlight
deriving DecidableEq, Repr

/-- Why the machine has no meaning for an instruction. -/
inductive Refusal where
  /-- Raised by `exec` alone, for an instruction that has no meaning yet; safe. No arm of `exec` raises it. -/
  | notModelled (mnemonic : String)
deriving DecidableEq, Repr

/-- The line latches after block reset: `⊥` each (R41). -/
def Lines.unknown : Lines := ⟨none, none, none, none, none⟩

/-- The machine right after block reset: the table of R41. The parameters, the answers and the host's moves, which are not
state of the block (R34), are as assumption log 1, 3 and 4 say; `port`, `done` and `panelKnown` as log 5, 6 and 7 say. -/
def State.reset : State where
  params := Params.chosen
  op := none
  argA := none
  argB := none
  lum := none
  orbH := none
  orbV := none
  seq := .idle
  busy := false
  status := .ok
  faultSeen := false
  pstate := .uninit
  lines := Lines.unknown
  trace := []
  port := none
  done := false
  preg := []
  panelKnown := false
  answers := []
  answerRest := .ack false none
  host := []

end Sys2Proof.Machine
end

