-- ==== Sys2Proof/Machine/Flags.lean ====
section
/-! DEFINITION. The flags `busy`, `status`, `fault_seen`, the pulse `done` and the position `seq`: their codes and the
operations that write them (spec 10_state.md R24 to R28, 30_encoding.md R72 and R74, 60_exceptions.md R194 and R196). -/

namespace Sys2Proof.Machine

/-- The two-bit code of `status` (R26). -/
def Status.code : Status → BitVec 2
  | .ok => 0
  | .fault => 1
  | .illegal => 2

/-- The two-bit code of `pstate` (R28). -/
def PState.code : PState → BitVec 2
  | .uninit => 0
  | .reset => 1
  | .active => 2
  | .powersave => 3

/-- A command begins: `busy <- 1`, `seq <- 0` (R72). -/
def State.start (s : State) : State := { s with busy := true, seq := .running 0 }

/-- The sequencer moves to a position (R24). -/
def State.moveTo (q : Seq) (s : State) : State := { s with seq := q }

/-- A command completes: `status` is written, `busy <- 0`, `seq <- idle`, `done` is raised (R74). -/
def State.complete (r : Status) (s : State) : State :=
  { s with status := r, busy := false, seq := .idle, done := true }

/-- A reserved opcode: the command completes as ILLEGAL and nothing else happens (R76, R194). -/
def State.completeIllegal (s : State) : State := s.complete .illegal

/-- The end of the abort procedure: `fault_seen <- 1`, then FAULT (R196 steps 3 and 4). -/
def State.completeFault (s : State) : State := State.complete .fault { s with faultSeen := true }

end Sys2Proof.Machine
end

