-- ==== Sys2Proof/Machine/Operands.lean ====
section
/-! DEFINITION. Every operand form of the commands and the number readings of spec 00_scope.md R10, with the field
functions of a register word (30_encoding.md R79) and the bits of a byte on the wire (20_memory.md R52). Arithmetic is on
mathematical integers (42_register_encoder.md R150). -/

namespace Sys2Proof.Machine

/-- `u8(b)`: the unsigned reading, 0 to 255 (R10). -/
def u8 (b : Byte) : Nat := b.toNat

/-- `s8(b)`: the two's-complement reading, -128 to 127 (R10). -/
def s8 (b : Byte) : Int := if b.toNat < 128 then (b.toNat : Int) else (b.toNat : Int) - 256

/-- `tc8(i) = i mod 256` (R10). -/
def tc8 (i : Int) : Byte := BitVec.ofInt 8 i

/-- `clamp(x, lo, hi)` (R10; D33). -/
def clamp (x lo hi : Int) : Int := if x < lo then lo else if hi < x then hi else x

/-- LUM's operand brought into its range: `clamp(u8(A), 5, 100)` (R142). -/
def lumValue (n : Byte) : Nat := (clamp (u8 n) lumMin lumMax).toNat

/-- An orbit operand brought into its range: `clamp(s8(b), -10, 10)` (R145). -/
def orbValue (b : Byte) : Int := clamp (s8 b) orbMin orbMax

/-- `RegisterWord(a, v) = {a, v}` (R79). -/
def registerWord (a v : Byte) : Word16 := a ++ v

/-- `w[15:8]`, the address byte (R79). -/
def addrByte (w : Word16) : Byte := w.extractLsb' 8 8

/-- `w[7:0]`, the value byte (R79). -/
def valByte (w : Word16) : Byte := w.extractLsb' 0 8

/-- The eight bits of a byte in the order they leave on the data line (R52, R106), for either bit order. -/
def byteBits (order : BitOrder) (b : Byte) : List Bool :=
  match order with
  | .msbFirst => [b.getLsbD 7, b.getLsbD 6, b.getLsbD 5, b.getLsbD 4, b.getLsbD 3, b.getLsbD 2, b.getLsbD 1, b.getLsbD 0]
  | .lsbFirst => [b.getLsbD 0, b.getLsbD 1, b.getLsbD 2, b.getLsbD 3, b.getLsbD 4, b.getLsbD 5, b.getLsbD 6, b.getLsbD 7]

/-- `sext_5(v[4:0])`: the low five bits of a byte as a two's-complement number (R10, R146). -/
def sext5 (b : Byte) : Int := (b.extractLsb' 0 5).toInt

end Sys2Proof.Machine
end

