-- ==== Sys2Proof/Machine/Ops.lean ====
section
/-! DEFINITION. The shared operations: the panel image, the line latches, one Transport event with its acknowledgement
(spec 40_transport.md), the shadows and the power state record (43_panel_controller.md R162, R166, R169, R171), the run of
a command's event list (R161), the abort procedure (60_exceptions.md R196) and block reset (70_reset_and_hazards.md R220). -/

namespace Sys2Proof.Machine

/-! ### The panel image (R35, R38) -/

/-- The value at an address; `none` is `⊥`. -/
def Memory.read : Memory → Byte → Option Byte
  | [], _ => none
  | (k, v) :: rest, a => if k = a.toNat then some v else Memory.read rest a

/-- The image with `v` at `a`, addresses still rising. -/
def Memory.write : Memory → Byte → Byte → Memory
  | [], a, v => [(a.toNat, v)]
  | (k, u) :: rest, a, v =>
    if a.toNat < k then (a.toNat, v) :: (k, u) :: rest
    else if a.toNat = k then (a.toNat, v) :: rest
    else (k, u) :: Memory.write rest a v

/-- The image with `⊥` at `a`. -/
def Memory.erase : Memory → Byte → Memory
  | [], _ => []
  | (k, u) :: rest, a => if k = a.toNat then Memory.erase rest a else (k, u) :: Memory.erase rest a

/-- The image with `a` holding a value or `⊥`. -/
def Memory.set (m : Memory) (a : Byte) : Option Byte → Memory
  | some v => m.write a v
  | none => m.erase a

/-- The canonical form: addresses strictly rising, every address a byte. -/
abbrev Memory.wf (m : Memory) : Prop :=
  List.Pairwise (fun x y : Host.Cell => x.1 < y.1) m ∧ ∀ c ∈ m, c.1 < 256

/-! ### Line latches (R30) -/

/-- The latch of a line. -/
def Lines.get (l : Lines) : LineId → Option Level
  | .data => l.data
  | .clk => l.clk
  | .rst => l.rst
  | .cs => l.cs
  | .pwr => l.pwr

/-- The latches with one of them written. -/
def Lines.set (l : Lines) (id : LineId) (v : Option Level) : Lines :=
  match id with
  | .data => { l with data := v }
  | .clk => { l with clk := v }
  | .rst => { l with rst := v }
  | .cs => { l with cs := v }
  | .pwr => { l with pwr := v }

/-! ### One Transport event (R100 to R103, R108 to R110) -/

/-- Which events can be acknowledged with a fault: `SetLine` and `Xfer`, never `Wait` (R110). -/
def Event.canFault : Event → Bool
  | .setLine _ _ => true
  | .wait _ => false
  | .xfer _ => true

/-- The latches after an event was acknowledged: only `SetLine` writes one, its level after a good acknowledgement (R101)
and `⊥` after a faulted one (R109). -/
def Lines.afterEvent (l : Lines) (e : Event) (r : Reply) : Lines :=
  match e, r with
  | .setLine id level, .ok => l.set id (some level)
  | .setLine id _, .fault => l.set id none
  | .wait _, _ => l
  | .xfer _, _ => l

/-- The Transport's next answer (R108). -/
def State.answer (s : State) : Answer :=
  match s.answers with
  | [] => s.answerRest
  | a :: _ => a

/-- The next answer has been used. -/
def State.popAnswer (s : State) : State := { s with answers := s.answers.tail }

/-- How the Transport acknowledges this event, if it does: its fault flag counts only when `TRANSPORT_FAULTS` (R108, R112)
and only on an event that can fault (R110); the received byte is discarded (R103). -/
def State.reply (s : State) (e : Event) : Option Reply :=
  match s.answer with
  | .hold => none
  | .ack fault _ => some (if fault && s.params.transportFaults && e.canFault then .fault else .ok)

/-- The event is offered and the Transport does not acknowledge it yet (R112, R203). -/
def State.offer (e : Event) (s : State) : State := { s.popAnswer with port := some e }

/-- The event is acknowledged: it enters the trace and writes its line latch (R33, R101, R109). -/
def State.acknowledge (e : Event) (r : Reply) (s : State) : State :=
  { s.popAnswer with port := none, trace := s.trace ++ [⟨e, r⟩], lines := s.lines.afterEvent e r }

/-! ### Shadows, power state, panel image (R38, R39, R162, R166, R169, R171) -/

/-- The luminance word has been sent: the value in ACTIVE, `⊥` otherwise (R162, R172). -/
def State.lumSent (c : Nat) (s : State) : State :=
  { s with lum := if s.pstate = .active then some c else none }

/-- The luminance word was cut short (R162). -/
def State.lumCut (s : State) : State := { s with lum := none }

/-- The horizontal orbit word has been sent (R162, R174). -/
def State.orbHSent (c : Int) (s : State) : State :=
  { s with orbH := if s.pstate = .active then some c else none }

/-- The horizontal orbit word was cut short (R162). -/
def State.orbHCut (s : State) : State := { s with orbH := none }

/-- The vertical orbit word has been sent (R162, R174). -/
def State.orbVSent (c : Int) (s : State) : State :=
  { s with orbV := if s.pstate = .active then some c else none }

/-- The vertical orbit word was cut short (R162). -/
def State.orbVCut (s : State) : State := { s with orbV := none }

/-- What the panel image records of a register word that has been sent: its value where R38 and R162 both let it, `⊥`
otherwise (assumption log 7). -/
def State.sentValue (w : Word16) (s : State) : Option Byte :=
  if s.panelKnown = true ∧ s.pstate = .active then some (valByte w) else none

/-- A register word has been sent (R38). -/
def State.panelSent (w : Word16) (s : State) : State := { s with preg := s.preg.set (addrByte w) (s.sentValue w) }

/-- A register word's transaction was cut short, or its effect on the panel is not known (R38, R175). -/
def State.panelCut (w : Word16) (s : State) : State := { s with preg := s.preg.erase (addrByte w) }

/-- Every panel register becomes `⊥` (U4, U16). -/
def State.panelLost (s : State) : State := { s with preg := [] }

/-- INIT's first `SetLine(RST, 0)` was acknowledged (R166). -/
def State.panelReset (s : State) : State :=
  { s with pstate := .reset, lum := none, orbH := none, orbV := none, preg := [], panelKnown := false }

/-- What the burst leaves in the panel: `⊥` everywhere, or the pairs of `BURST_MAP` where it is given (R39). -/
def burstImage : Option (List (Byte × Byte)) → Memory
  | none => []
  | some pairs => pairs.foldl (fun m p => m.write p.1 p.2) []

/-- INIT's last event was acknowledged (R39, R166). -/
def State.panelInitialised (s : State) : State :=
  { s with pstate := .active, lum := some lumDefault, orbH := some orbDefault, orbV := some orbDefault,
           preg := burstImage s.params.burstMap, panelKnown := true }

/-- PON's transition: only UNINIT does not go to ACTIVE (R169, R176). -/
def PState.afterPon : PState → PState
  | .uninit => .uninit
  | .reset => .active
  | .active => .active
  | .powersave => .active

/-- POFF's transition: only UNINIT does not go to POWERSAVE (R171, R176). -/
def PState.afterPoff : PState → PState
  | .uninit => .uninit
  | .reset => .powersave
  | .active => .powersave
  | .powersave => .powersave

/-- PON's last event was acknowledged (R168). -/
def State.panelOn (s : State) : State := { s with pstate := s.pstate.afterPon }

/-- POFF's confirm word was acknowledged (R170). -/
def State.panelOff (s : State) : State := { s with pstate := s.pstate.afterPoff }

/-! ### A command's event list -/

/-- One event of a command's list with the state writes attached to it (R161): what happens when it is acknowledged
without fault, and what happens before the abort procedure when it faults. -/
structure Item where
  event : Event
  onAck : State → State
  onFault : State → State

/-- An event with no state write attached. -/
def Item.plain (e : Event) : Item := ⟨e, id, id⟩

/-- The two events of the abort procedure (R196 steps 1 and 2). -/
def abortEvents (t : Transport) : List Event := [.setLine .cs .high, .wait (tIdle t)]

/-- A fault was reported: control jumps to the abort procedure (R24, R196), and what the panel holds is not known until a new
INIT completes (R198, U4). -/
def State.enterAbort (s : State) : State := { s with seq := .aborting 0, panelKnown := false }

/-- TAKING THE ONE FAULT: the abort procedure from its event `k` on (R196). A fault of its own `SetLine(CS,1)` is ignored.
There is no handler and no return (R201): the block is idle when the procedure ends. -/
def runAbort : Nat → List Event → State → State
  | _, [], s => s.completeFault
  | k, e :: rest, s =>
    match s.reply e with
    | none => s.offer e
    | some r => runAbort (k + 1) rest ((s.acknowledge e r).moveTo (.aborting (k + 1)))

/-- The rest of a command's event list, the first of them at position `k` (R161): each event goes out after the one before
it was acknowledged; the first fault ends the list and starts the abort procedure; after the last event the command
completes as OK. An event that is not acknowledged stays offered (R203). -/
def runItems : Nat → List Item → State → State
  | _, [], s => s.complete .ok
  | k, it :: rest, s =>
    match s.reply it.event with
    | none => s.offer it.event
    | some .ok =>
      runItems (k + 1) rest (it.onAck ((s.acknowledge it.event .ok).moveTo (.running (k + 1))))
    | some .fault =>
      runAbort 0 (abortEvents s.params.transport) (it.onFault (s.acknowledge it.event .fault)).enterAbort

/-- A command with this event list, from where the sequencer stands: begun when none is in flight, carried on otherwise. -/
def runCommand (items : List Item) (s : State) : State :=
  match s.busy, s.seq with
  | true, .running k => runItems k (items.drop k) s
  | true, .aborting k => runAbort k ((abortEvents s.params.transport).drop k) s
  | true, .idle => runItems 0 items s.start
  | false, _ => runItems 0 items s.start

/-! ### Block reset (R220) -/

/-- Every piece of block state takes its value of R41; parameters, answers and host moves are not state of the block. -/
def State.blockReset (s : State) : State :=
  { State.reset with params := s.params, answers := s.answers, answerRest := s.answerRest, host := s.host }

end Sys2Proof.Machine
end

