-- ==== Sys2Proof/Machine/Accept.lean ====
section
/-! DEFINITION. The command port (spec 30_encoding.md R72 to R76): which command the next step runs, and in which state. -/

namespace Sys2Proof.Machine

/-- Acceptance: `op`, `A`, `B` are loaded, `busy <- 1`, `seq <- 0` (R72). -/
def State.accept (w : CmdWord) (s : State) : State :=
  State.start { s with op := some (opField w), argA := some (aField w), argB := some (bField w) }

/-- The pulse `done` ends: it lasts one acceptance opportunity (R74; assumption log 5). -/
def State.clearDone (s : State) : State := { s with done := false }

/-- The host has made its next move. -/
def State.popHost (s : State) : State := { s with host := s.host.tail }

/-- The command the latches hold (R22, R24). -/
def State.command (s : State) : Option Instr :=
  match s.op, s.argA, s.argB with
  | some op, some a, some b => decode? (cmdWord op a b)
  | _, _, _ => none

/-- What one step does. -/
inductive Selection where
  /-- No command runs in this step; this is the next state. -/
  | settle (s : State)
  /-- This command runs from this state. -/
  | run (i : Instr) (s : State)
  /-- The machine stops. -/
  | stop (r : Fault)

/-- The command in flight goes on (R24). -/
def carryOn (s : State) : Selection :=
  match s.command with
  | some i => .run i s
  | none => .stop .noCommandInFlight

/-- A step in which no command is accepted. -/
def quiet (s : State) : Selection := if s.busy then carryOn s else .settle s

/-- The word is accepted: its command runs, or it is reserved and completes at once as ILLEGAL (R76, R202). -/
def take (w : CmdWord) (s : State) : Selection :=
  match decode w with
  | .ok i => .run i (s.accept w)
  | .error _ => .settle (s.accept w).completeIllegal

/-- The next step's work, by the host's next move. Reset goes before everything (R220); a presented word is accepted exactly
when `busy = 0` and waits otherwise (R72, R73). -/
def select (s : State) : Selection :=
  match s.host with
  | [] => quiet s.clearDone
  | .pass :: _ => quiet s.clearDone.popHost
  | .rst :: _ => .settle s.popHost.blockReset
  | .present w :: _ => if s.busy then carryOn s.clearDone else take w s.clearDone.popHost

end Sys2Proof.Machine
end

