-- ==== Sys2Proof/Machine/Frame.lean ====
section
/-! DEFINITION. The Frame Protocol (spec 41_frame_protocol.md): transactions as event lists, and the bits they put on the
data line (30_encoding.md R80, 20_memory.md R51 and R52). -/

namespace Sys2Proof.Machine

/-- `TXN(bs)` (R121): the state write `done` is attached to its last event; `cut` to a fault of any of its events (R162: a
transaction has started with its `SetLine(CS,0)`, as vector F3 shows). -/
def txn (t : Transport) (bs : List Byte) (done cut : State → State) : List Item :=
  [⟨.setLine .cs .low, id, cut⟩, ⟨.wait (tSettle t), id, cut⟩]
    ++ bs.map (fun b => ⟨.xfer b, id, cut⟩)
    ++ [⟨.wait (tSettle t), id, cut⟩, ⟨.setLine .cs .high, id, cut⟩, ⟨.wait (tIdle t), done, cut⟩]

/-- `burstWrite(bs) = TXN(bs)`: the bytes as they stand, nothing before them (R123). -/
def burstWrite (t : Transport) (bs : List Byte) (done cut : State → State) : List Item := txn t bs done cut

/-- `writeWord(w) = TXN([w[15:8], w[7:0]])` (R124). -/
def writeWord (t : Transport) (w : Word16) (done cut : State → State) : List Item :=
  txn t [addrByte w, valByte w] done cut

/-- One word of a `writeRegisters` with its state writes. -/
structure RegWrite where
  word : Word16
  done : State → State
  cut : State → State

/-- `writeRegisters(ws)`: one transaction for each word, in order, never one for several (R125). -/
def writeRegisters (t : Transport) : List RegWrite → List Item
  | [] => []
  | r :: rest => writeWord t r.word r.done r.cut ++ writeRegisters t rest

/-- A word that no shadow mirrors: the panel image alone follows it (R38). -/
def RegWrite.plain (w : Word16) : RegWrite := ⟨w, State.panelSent w, State.panelCut w⟩

/-- The bits an event puts on the data line as register contents: those of an `Xfer`'s byte, in the block's bit order
(R52, R106). -/
def wireBits (e : Event) : List Bool :=
  match e with
  | .setLine _ _ => []
  | .wait _ => []
  | .xfer b => byteBits bitOrder b

end Sys2Proof.Machine
end

