-- ==== Sys2Proof/Machine/Init.lean ====
section
/-! DEFINITION. INIT (spec 43_panel_controller.md R163 to R167). -/

namespace Sys2Proof.Machine

/-- `SetLine(PWR, 0)`: the panel's registers are not known after it (U16). -/
def powerLow : Item := ⟨.setLine .pwr .low, State.panelLost, id⟩

/-- INIT's events before the burst, in the order of R164; DATA and CLK only for BITBANG, PWR only with `HAS_PWR`. -/
def initLines (p : Params) : List Item :=
  (match p.transport with
    | .bitbang => [Item.plain (.setLine .data .low), Item.plain (.setLine .clk .low)]
    | .hwspi => [])
  ++ [⟨.setLine .rst .low, State.panelReset, id⟩, Item.plain (.setLine .cs .high)]
  ++ (if p.hasPwr then [powerLow] else [])
  ++ [Item.plain (.wait tReset), Item.plain (.setLine .rst .low), Item.plain (.wait tReset),
      Item.plain (.setLine .rst .high), Item.plain (.wait tReset)]

/-- INIT's event list with its state writes (R164, R166). -/
def initItems (p : Params) : List Item :=
  initLines p ++ burstWrite p.transport p.initTable State.panelInitialised State.panelLost

/-- INIT: the same from every `pstate` (R166). -/
def execInit (s : State) : Host.Outcome State Fault Refusal :=
  .next (runCommand (initItems s.params) s)

end Sys2Proof.Machine
end

