-- ==== Sys2Proof/Machine/Encoder.lean ====
section
/-! DEFINITION. The Register Encoder (spec 42_register_encoder.md): pure functions from operands to register words, and the
fixed sequences (10_state.md R32). -/

namespace Sys2Proof.Machine

/-- `LUM_ENABLE_WORD = RegisterWord(0x11, 0x07)` (R32, R141). -/
def lumEnableWord : Word16 := registerWord 0x11 0x07

/-- The second luminance word, `{0x13, clamp(n, 5, 100)}` (R142). -/
def lumValueWord (n : Byte) : Word16 := registerWord 0x13 (BitVec.ofNat 8 (lumValue n))

/-- `encodeLuminance(u8(n))` (R142). -/
def encodeLuminance (n : Byte) : List Word16 := [lumEnableWord, lumValueWord n]

/-- The horizontal orbit word, `{0x02, 0x00 | tc8(clamp(h, -10, 10))}` (R145). -/
def orbHWord (h : Byte) : Word16 := registerWord 0x02 (0x00 ||| tc8 (orbValue h))

/-- The vertical orbit word, `{0x03, 0x80 | tc8(clamp(v, -10, 10))}`, from the vertical operand (R145, R149). -/
def orbVWord (v : Byte) : Word16 := registerWord 0x03 (0x80 ||| tc8 (orbValue v))

/-- `encodeOrbit(s8(h), s8(v))` (R145). -/
def encodeOrbit (h v : Byte) : List Word16 := [orbHWord h, orbVWord v]

/-- The mode-select word and the two confirm words (R147). -/
def modeSelectWord : Word16 := 0x004D
def confirmOnWord : Word16 := 0x004F
def confirmOffWord : Word16 := 0x004C

/-- `PANEL_ON_SEQUENCE` (R147). -/
def panelOnSequence : List Word16 := [modeSelectWord, confirmOnWord]

/-- `PANEL_OFF_SEQUENCE` (R147). -/
def panelOffSequence : List Word16 := [modeSelectWord, confirmOffWord]

/-- `READBACK_PROBE_SEQUENCE`: the four probe words in their fixed order (R148). -/
def probeSequence (p : ProbeWords) : List Word16 :=
  [p.enableRead, p.setAddress, p.triggerRead, p.disableRead]

end Sys2Proof.Machine
end

