-- ==== Sys2Proof/Machine/Power.lean ====
section
/-! DEFINITION. PON and POFF (spec 43_panel_controller.md R168 to R171). -/

namespace Sys2Proof.Machine

/-- PON's event list (R168). `pstate` moves when the confirm word's last event is acknowledged (R168), and the panel image
is written after it, so that the image is written in ACTIVE (assumption log 8). -/
def ponItems (p : Params) : List Item :=
  (if p.hasPwr then [Item.plain (.setLine .pwr .high), Item.plain (.wait tPwr)] else [])
  ++ writeRegisters p.transport
      [RegWrite.plain modeSelectWord,
       ⟨confirmOnWord, fun s => s.panelOn.panelSent confirmOnWord, State.panelCut confirmOnWord⟩]

/-- POFF's event list (R170). `pstate` moves when the confirm word's transaction completes, not at the end (R170); the
panel image is written before it (assumption log 8). -/
def poffItems (p : Params) : List Item :=
  writeRegisters p.transport
      [RegWrite.plain modeSelectWord,
       ⟨confirmOffWord, fun s => (s.panelSent confirmOffWord).panelOff, State.panelCut confirmOffWord⟩]
  ++ (if p.hasPwr then [Item.plain (.wait tPwr), powerLow] else [])

/-- PON (R168, R169). -/
def execPon (s : State) : Host.Outcome State Fault Refusal :=
  .next (runCommand (ponItems s.params) s)

/-- POFF (R170, R171). -/
def execPoff (s : State) : Host.Outcome State Fault Refusal :=
  .next (runCommand (poffItems s.params) s)

end Sys2Proof.Machine
end

