-- ==== Sys2Proof/Machine/Probe.lean ====
section
/-! DEFINITION. PROBE (spec 43_panel_controller.md R175, 42_register_encoder.md R148). -/

namespace Sys2Proof.Machine

/-- A probe word: what it does to the panel is not in the source, so the image at its address becomes `⊥` (R175). -/
def probeWrite (w : Word16) : RegWrite := ⟨w, State.panelCut w, State.panelCut w⟩

/-- PROBE's event list: `writeRegisters(PROBE_WORDS)` (R175). -/
def probeItems (p : Params) : List Item :=
  writeRegisters p.transport ((probeSequence p.probeWords).map probeWrite)

/-- PROBE: with `HAS_PROBE` the four words go out (R175); without it the opcode is reserved and completes as ILLEGAL (R76). -/
def execProbe (s : State) : Host.Outcome State Fault Refusal :=
  if s.params.hasProbe then .next (runCommand (probeItems s.params) s) else .next s.completeIllegal

end Sys2Proof.Machine
end

