-- ==== Sys2Proof/Machine/Settings.lean ====
section
/-! DEFINITION. LUM and ORB (spec 43_panel_controller.md R172 to R174). The words go out in every `pstate`; the shadow takes
the value only in ACTIVE (R162). -/

namespace Sys2Proof.Machine

/-- The second luminance word: `lum` follows its transaction (R162, R172). -/
def lumWrite (n : Byte) : RegWrite :=
  ⟨lumValueWord n, fun s => (s.panelSent (lumValueWord n)).lumSent (lumValue n),
   fun s => (s.panelCut (lumValueWord n)).lumCut⟩

/-- LUM's event list: `writeRegisters(encodeLuminance(n))` (R172). -/
def lumItems (p : Params) (n : Byte) : List Item :=
  writeRegisters p.transport [RegWrite.plain lumEnableWord, lumWrite n]

/-- The horizontal word: `orb_h` follows its transaction (R162, R174). -/
def orbHWrite (h : Byte) : RegWrite :=
  ⟨orbHWord h, fun s => (s.panelSent (orbHWord h)).orbHSent (orbValue h),
   fun s => (s.panelCut (orbHWord h)).orbHCut⟩

/-- The vertical word: `orb_v` follows its transaction (R162, R174). -/
def orbVWrite (v : Byte) : RegWrite :=
  ⟨orbVWord v, fun s => (s.panelSent (orbVWord v)).orbVSent (orbValue v),
   fun s => (s.panelCut (orbVWord v)).orbVCut⟩

/-- ORB's event list: `writeRegisters(encodeOrbit(h, v))`, the horizontal word first (R174). -/
def orbItems (p : Params) (h v : Byte) : List Item :=
  writeRegisters p.transport [orbHWrite h, orbVWrite v]

/-- LUM (R172). -/
def execLum (n : Byte) (s : State) : Host.Outcome State Fault Refusal :=
  .next (runCommand (lumItems s.params n) s)

/-- ORB (R174). -/
def execOrb (h v : Byte) (s : State) : Host.Outcome State Fault Refusal :=
  .next (runCommand (orbItems s.params h v) s)

end Sys2Proof.Machine
end

