-- ==== Sys2Proof/Machine/Dispatch.lean ====
section
/-! DEFINITION. One arm for each command (spec 30_encoding.md R75). -/

namespace Sys2Proof.Machine

def exec (i : Instr) (s : State) : Host.Outcome State Fault Refusal :=
  match i with
  | .init _ _ => Sys2Proof.Machine.execInit s
  | .pon _ _ => Sys2Proof.Machine.execPon s
  | .poff _ _ => Sys2Proof.Machine.execPoff s
  | .lum n _ => Sys2Proof.Machine.execLum n s
  | .orb h v => Sys2Proof.Machine.execOrb h v s
  | .probe _ _ => Sys2Proof.Machine.execProbe s

end Sys2Proof.Machine
end

