-- ==== Sys2Proof/Machine/Step.lean ====
section
/-! DEFINITION. One step of the machine: one move of the host, and the command it starts or the command in flight, run until
it completes or the Transport withholds an acknowledgement (assumption log 2). -/

namespace Sys2Proof.Machine

/-- One step. -/
def step (s : State) : Host.Outcome State Fault Refusal :=
  match select s with
  | .settle t => .next t
  | .run i t => exec i t
  | .stop r => .fault r

/-- The state in which the next step accepts this command word: the host presents it next, and no command is in flight
(assumption log 4). -/
def State.withFetchWord (s : State) (nbits w : Nat) : State :=
  { s with host := .present (BitVec.ofNat 24 (w % 2 ^ nbits)) :: s.host, busy := false, seq := .idle, port := none }

end Sys2Proof.Machine
end

