-- ==== Sys2Proof/Machine/Ports.lean ====
section
/-! DEFINITION. The block's outputs as functions of its state: the command port (spec 30_encoding.md R72, R74), the status
outputs (70_reset_and_hazards.md R232, with the widths of 10_state.md R23) and the Transport port (40_transport.md R112). -/

namespace Sys2Proof.Machine

/-- `cmd_ready = 1` exactly when `busy = 0` (R72). -/
def State.cmdReady (s : State) : Bool := !s.busy

/-- `t_req`: an event is offered (R112). -/
def State.tReq (s : State) : Bool := s.port.isSome

/-- `t_kind`: 0 SetLine, 1 Wait, 2 Xfer (R112). -/
def Event.kind : Event → BitVec 2
  | .setLine _ _ => 0
  | .wait _ => 1
  | .xfer _ => 2

/-- `t_line`: 0 DATA, 1 CLK, 2 RST, 3 CS, 4 PWR (R112). -/
def LineId.code : LineId → BitVec 3
  | .data => 0
  | .clk => 1
  | .rst => 2
  | .cs => 3
  | .pwr => 4

/-- `t_level` (R12, R112). -/
def Level.bit : Level → BitVec 1
  | .low => 0
  | .high => 1

/-- `t_line` and `t_level` of a `SetLine`. -/
def Event.lineOut : Event → Option (BitVec 3 × BitVec 1)
  | .setLine id level => some (id.code, level.bit)
  | .wait _ => none
  | .xfer _ => none

/-- `t_dur` of a `Wait`, 16 bits (R112). -/
def Event.durOut : Event → Option (BitVec 16)
  | .setLine _ _ => none
  | .wait d => some (BitVec.ofNat 16 d)
  | .xfer _ => none

/-- `t_byte` of an `Xfer` (R112). -/
def Event.byteOut : Event → Option Byte
  | .setLine _ _ => none
  | .wait _ => none
  | .xfer b => some b

/-- `lum` as the host sees it: 7 bits, and no value for `⊥` (R23). -/
def State.lumOut (s : State) : Option (BitVec 7) := s.lum.map (BitVec.ofNat 7)

/-- `orb_h` as the host sees it: 5 bits two's complement (R23). -/
def State.orbHOut (s : State) : Option (BitVec 5) := s.orbH.map (BitVec.ofInt 5)

/-- `orb_v` as the host sees it: 5 bits two's complement (R23). -/
def State.orbVOut (s : State) : Option (BitVec 5) := s.orbV.map (BitVec.ofInt 5)

/-- Every event emitted since block reset, the one still offered included (R33; assumption log 6). -/
def State.emitted (s : State) : List Event := s.trace.map TraceEntry.event ++ s.port.toList

end Sys2Proof.Machine
end

