-- ==== Sys2Proof/Machine/Commands.lean ====
section
/-! DEFINITION. A command's event list as a function of the command and the parameters alone (spec 10_state.md R40,
43_panel_controller.md R161), in the terms that claims use. -/

namespace Sys2Proof.Machine

/-- The event list of a command with its state writes. -/
def commandItems (p : Params) : Instr → List Item
  | .init _ _ => initItems p
  | .pon _ _ => ponItems p
  | .poff _ _ => poffItems p
  | .lum n _ => lumItems p n
  | .orb h v => orbItems p h v
  | .probe _ _ => probeItems p

/-- The event list of a command (R161). -/
def commandEvents (p : Params) (i : Instr) : List Event := (commandItems p i).map Item.event

/-- The sequencer stands at the beginning of a command: none is in flight, or one was just accepted. -/
def State.atStart (s : State) : Prop := s.busy = false ∨ s.seq = .running 0

/-- The Transport acknowledges these events one after another, each without fault (R108). -/
def State.acksAll : List Event → State → Prop
  | [], _ => True
  | e :: es, s => s.reply e = some .ok ∧ State.acksAll es s.popAnswer

/-- The trace entries of events that were all acknowledged without fault. -/
def okEntries (es : List Event) : List TraceEntry := es.map fun e => ⟨e, .ok⟩

/-- The bytes of a list of events, in order. -/
def xferBytes : List Event → List Byte
  | [] => []
  | .xfer b :: es => b :: xferBytes es
  | .setLine _ _ :: es => xferBytes es
  | .wait _ :: es => xferBytes es

/-- The sum of the `Wait` operands of a list of events, in microseconds (R177). -/
def waitSum : List Event → Nat
  | [] => 0
  | .wait d :: es => d + waitSum es
  | .setLine _ _ :: es => waitSum es
  | .xfer _ :: es => waitSum es

end Sys2Proof.Machine
end

