-- ==== Sys2Proof/Machine/Wave.lean ====
section
/-! DEFINITION. The waveform of a byte on the bit-banged Transport, the parameter `SHIFT` (spec 40_transport.md R106, R107,
00_scope.md R7): what it is constrained to, what it puts on DATA and CLK, and the true levels of the lines. No rule of the
block reads it, and the latches do not follow it (R107). -/

namespace Sys2Proof.Machine

/-- The level that stands for a bit (R12). -/
def bitLevel (b : Bool) : Level := if b then .high else .low

/-- `SHIFT(b)`, where it is given. -/
def shiftOf (p : Params) (b : Byte) : Option (List ShiftEvent) :=
  match p.shift with
  | none => none
  | some table => table[b.toNat]?

/-- The levels of DATA at the changes of CLK to `edge`, from the levels of DATA (`none`: not known) and CLK before. Driving
CLK to the level it has is no change. -/
def samples (edge : Level) : Option Level → Level → List ShiftEvent → List (Option Level)
  | _, _, [] => []
  | _, clk, ⟨.data, level⟩ :: es => samples edge (some level) clk es
  | data, clk, ⟨.clk, level⟩ :: es =>
    if level = edge ∧ clk ≠ edge then data :: samples edge data level es else samples edge data level es

/-- The level of CLK after these events. -/
def clockAfter : Level → List ShiftEvent → Level
  | clk, [] => clk
  | clk, ⟨.data, _⟩ :: es => clockAfter clk es
  | _, ⟨.clk, level⟩ :: es => clockAfter level es

/-- The levels that a byte's bits are to have on DATA, in the block's bit order (R52, R106). -/
def byteLevels (b : Byte) : List (Option Level) := (byteBits bitOrder b).map fun x => some (bitLevel x)

/-- The constraint of R106 on the events of one byte, for a clock that idles at `idle` and data that counts at the change to
`edge`: exactly eight data bits, `b[7]` to `b[0]`, one per clock pulse. -/
def shiftByteOk (idle edge : Level) (b : Byte) (es : List ShiftEvent) : Bool :=
  samples edge none idle es == byteLevels b && clockAfter idle es == idle

/-- The constraint on the events of every byte. -/
def shiftTableOk (idle edge : Level) (table : List (List ShiftEvent)) : Bool :=
  (List.range 256).all fun n =>
    match table[n]? with
    | some es => shiftByteOk idle edge (BitVec.ofNat 8 n) es
    | none => false

/-- R106, all a model may assume of `SHIFT`: the constraint holds for one idle level and one edge, which the spec leaves
open (assumption log 15). -/
def shiftOk (table : List (List ShiftEvent)) : Bool :=
  table.length == 256 &&
    (shiftTableOk .low .low table || shiftTableOk .low .high table || shiftTableOk .high .low table ||
      shiftTableOk .high .high table)

/-- The line events that the transfers among these events put on DATA and CLK; `none` where `SHIFT` is not given. -/
def waveform (p : Params) : List Event → Option (List ShiftEvent)
  | [] => some []
  | .setLine _ _ :: es => waveform p es
  | .wait _ :: es => waveform p es
  | .xfer b :: es =>
    match shiftOf p b, waveform p es with
    | some xs, some ys => some (xs ++ ys)
    | _, _ => none

/-- The line that an event of `SHIFT` drives. -/
def shiftLineId : ShiftLine → LineId
  | .data => .data
  | .clk => .clk

/-- The level of a line after the events of a byte. -/
def levelAfterShift (id : LineId) : Option Level → List ShiftEvent → Option Level
  | before, [] => before
  | before, x :: xs => levelAfterShift id (if shiftLineId x.line = id then some x.level else before) xs

/-- The true level of a line after an acknowledged event (R107): a `SetLine` sets its own line; a transfer of the bit-banged
Transport leaves DATA and CLK as `SHIFT` left them, which is not known where `SHIFT` is not given or the transfer faulted;
a faulted `SetLine` leaves its line unknown (R109). -/
def levelAfter (p : Params) (id : LineId) (before : Option Level) (x : TraceEntry) : Option Level :=
  match x.event with
  | .setLine j level => if j = id then (match x.reply with | .ok => some level | .fault => none) else before
  | .wait _ => before
  | .xfer b =>
    if p.transport = .bitbang ∧ (id = .data ∨ id = .clk) then
      match x.reply, shiftOf p b with
      | .ok, some xs => levelAfterShift id before xs
      | _, _ => none
    else before

/-- The true level of a line after the acknowledged events since block reset; `none` where it is not known. -/
def State.wireLevel (s : State) (id : LineId) : Option Level := s.trace.foldl (levelAfter s.params id) none

end Sys2Proof.Machine
end

