-- ==== Sys2Proof/WellFormed.lean ====
section
/-! DEFINITION. Which parameters can be constructed (spec 00_scope.md R7) and which commands are commands of a block so
constructed (30_encoding.md R76, R78). Operand values are never illegal (R78), so no operand is checked. -/

namespace Sys2Proof

/-- A given `SHIFT` is one of the bit-banged Transport (R7: "BB only") and meets the constraints of R106. -/
def Params.shiftWf (p : Params) : Bool :=
  match p.shift with
  | none => true
  | some table => p.transport == .bitbang && Machine.shiftOk table

/-- R7: `HAS_PROBE` "may be true only when `TRANSPORT = BITBANG`", `INIT_LEN` ≥ 1, and `SHIFT` as R106 constrains it. -/
def Params.wf (p : Params) : Bool :=
  (!p.hasProbe || p.transport == .bitbang) && !p.initTable.isEmpty && p.shiftWf

/-- A command's opcode is one this block does not reserve: `0x06` is reserved when `HAS_PROBE` is false (R76). -/
def wellFormed (p : Params) : Instr → Bool
  | .init _ _ => true
  | .pon _ _ => true
  | .poff _ _ => true
  | .lum _ _ => true
  | .orb _ _ => true
  | .probe _ _ => p.hasProbe

end Sys2Proof
end

