-- ==== Sys2Proof/Safety.lean ====
section
/-! DEFINITION. What counts as a safe state and a safe run, in the terms the claims use: the state invariant, the bus
discipline of the trace (spec 20_memory.md R62, 41_frame_protocol.md R122, 95_test_vectors.md V12), how a Transport can
behave over a command, and the comparison of two runs that differ in the received bytes (40_transport.md R103). -/

namespace Sys2Proof.Machine

/-! ### The state invariant -/

/-- While a command is in flight between two steps, the latches hold a command of this block, and the event at the
sequencer's position stays offered (R24, R112, R203). -/
def State.InFlight (s : State) : Prop :=
  ∃ i e, s.command = some i ∧ wellFormed s.params i = true ∧ s.port = some e ∧
    ((∃ k, s.seq = .running k ∧ (commandEvents s.params i)[k]? = some e) ∨
     (∃ k, s.seq = .aborting k ∧ (abortEvents s.params.transport)[k]? = some e))

/-- What every reachable state meets. -/
structure State.Inv (s : State) : Prop where
  /-- The parameters can be constructed (R7). -/
  paramsWf : s.params.wf = true
  /-- `busy` is 1 exactly while a command is in flight (R24, R25). -/
  busySeq : s.busy = true ↔ s.seq ≠ .idle
  flight : s.busy = true → s.InFlight
  /-- An idle block offers no event (R112). -/
  idlePort : s.busy = false → s.port = none
  /-- The panel image is in canonical form. -/
  pregWf : s.preg.wf
  /-- R23. -/
  lumRange : ∀ n, s.lum = some n → 5 ≤ n ∧ n ≤ 100
  orbHRange : ∀ x, s.orbH = some x → -10 ≤ x ∧ x ≤ 10
  orbVRange : ∀ x, s.orbV = some x → -10 ≤ x ∧ x ≤ 10
  /-- A line that does not exist has no latch (R8, R30). -/
  noDataClk : s.params.transport = .hwspi → s.lines.data = none ∧ s.lines.clk = none
  noPwr : s.params.hasPwr = false → s.lines.pwr = none
  /-- No fault recorded, no command ended as FAULT (R27). -/
  faultRecord : s.faultSeen = false → s.status ≠ .fault
  /-- Before the panel is initialised the shadows hold `⊥` (R162, R166, vector V9). -/
  shadowsBeforeInit : s.pstate = .uninit ∨ s.pstate = .reset → s.lum = none ∧ s.orbH = none ∧ s.orbV = none

/-! ### The bus discipline -/

/-- Where the control bus stands after some of its trace: chip-select idle with the idle window waited; chip-select
asserted; settled, so that bytes may go out; the closing settle time waited; a transaction cut by a fault; chip-select
just deasserted, the idle window still owed. -/
inductive BusPhase where
  | gapped
  | asserted
  | opened
  | closing
  | cut
  | released
deriving DecidableEq, Repr

/-- Where the bus stands after one more event; `none` is a breach: an assertion with no idle window before it (R62), a byte
outside a settled transaction, or a transaction that is not shaped as R121 and R122 say. -/
def busNext (t : Transport) : BusPhase → TraceEntry → Option BusPhase
  | .gapped, ⟨.setLine .cs .low, .ok⟩ => some .asserted
  | .gapped, ⟨.setLine .cs .low, .fault⟩ => some .cut
  | .gapped, ⟨.setLine .cs .high, _⟩ => some .released
  | .gapped, ⟨.setLine _ _, _⟩ => some .gapped
  | .gapped, ⟨.wait _, _⟩ => some .gapped
  | .gapped, ⟨.xfer _, _⟩ => none
  | .asserted, ⟨.wait d, _⟩ => if tSettle t ≤ d then some .opened else none
  | .asserted, _ => none
  | .opened, ⟨.xfer _, .ok⟩ => some .opened
  | .opened, ⟨.xfer _, .fault⟩ => some .cut
  | .opened, ⟨.wait d, _⟩ => if tSettle t ≤ d then some .closing else none
  | .opened, ⟨.setLine _ _, _⟩ => none
  | .closing, ⟨.setLine .cs .high, .ok⟩ => some .released
  | .closing, ⟨.setLine .cs .high, .fault⟩ => some .cut
  | .closing, _ => none
  | .cut, ⟨.setLine .cs .high, _⟩ => some .released
  | .cut, _ => none
  | .released, ⟨.wait d, _⟩ => if tIdle t ≤ d then some .gapped else none
  | .released, ⟨.setLine .cs .high, _⟩ => some .released
  | .released, ⟨.setLine .cs .low, _⟩ => none
  | .released, ⟨.setLine _ _, _⟩ => some .released
  | .released, ⟨.xfer _, _⟩ => none

/-- Where the bus stands after a list of trace entries. -/
def busRun (t : Transport) : BusPhase → List TraceEntry → Option BusPhase
  | ph, [] => some ph
  | ph, x :: xs =>
    match busNext t ph x with
    | some ph' => busRun t ph' xs
    | none => none

/-- Where the bus stands after the whole trace. -/
def State.busPhase (s : State) : Option BusPhase := busRun s.params.transport .gapped s.trace

/-- The trace breaches the bus discipline nowhere, and the sequencer stands where the bus stands: idle with the idle window
waited, inside a command where its events so far lead, or inside the abort procedure. -/
def State.BusInv (s : State) : Prop :=
  match s.seq with
  | .idle => s.busPhase = some .gapped
  | .running k => ∃ i ph, s.command = some i ∧ s.busPhase = some ph ∧
      busRun s.params.transport .gapped (okEntries ((commandEvents s.params i).take k)) = some ph
  | .aborting 0 => s.busPhase = some .gapped ∨ s.busPhase = some .released ∨ s.busPhase = some .cut
  | .aborting 1 => s.busPhase = some .released
  | .aborting _ => False

/-! ### The Transport's behaviour over a command -/

/-- The state with its first `n` answers used. -/
def State.afterAnswers (n : Nat) (s : State) : State := { s with answers := s.answers.drop n }

/-- The reference design's Transport (R108): it reports no fault, and it always acknowledges. -/
def State.Reliable (s : State) : Prop :=
  s.params.transportFaults = false ∧ s.answerRest ≠ .hold ∧ ∀ a ∈ s.answers, a ≠ .hold

/-- Of these events the Transport acknowledges the first `k` without fault, faults the next, which is `e`, and acknowledges
the abort procedure's two events, its `SetLine(CS,1)` with `r`. -/
def State.FaultsAt (s : State) (es : List Event) (k : Nat) (e : Event) (r : Reply) : Prop :=
  es[k]? = some e ∧ s.acksAll (es.take k) ∧ (s.afterAnswers k).reply e = some .fault ∧
    (s.afterAnswers (k + 1)).reply (.setLine .cs .high) = some r ∧
    (s.afterAnswers (k + 2)).reply (.wait (tIdle s.params.transport)) = some .ok

/-- The seven events of a single-register frame as R80 lists them. -/
def wordEvents (t : Transport) (a v : Byte) : List Event :=
  [.setLine .cs .low, .wait (tSettle t), .xfer a, .xfer v, .wait (tSettle t), .setLine .cs .high, .wait (tIdle t)]

/-- INIT's events as R164 lists them: the lines marked [BB] and [PWR] only where they exist, then the burst. -/
def initEvents (p : Params) : List Event :=
  List.flatten
    [match p.transport with
      | .bitbang => [.setLine .data .low, .setLine .clk .low]
      | .hwspi => [],
     [.setLine .rst .low, .setLine .cs .high],
     if p.hasPwr then [.setLine .pwr .low] else [],
     [.wait 16000, .setLine .rst .low, .wait 16000, .setLine .rst .high, .wait 16000],
     [.setLine .cs .low, .wait (tSettle p.transport)],
     p.initTable.map Event.xfer,
     [.wait (tSettle p.transport), .setLine .cs .high, .wait (tIdle p.transport)]]

/-! ### Received bytes -/

/-- The answer without its received byte. -/
def Answer.eraseRx : Answer → Answer
  | .ack fault _ => .ack fault none
  | .hold => .hold

/-- The state with every received byte left out of the answers still to come. -/
def State.eraseRx (s : State) : State :=
  { s with answers := s.answers.map Answer.eraseRx, answerRest := s.answerRest.eraseRx }

/-- An outcome with its next state mapped. -/
def mapNext (f : State → State) : Host.Outcome State Fault Refusal → Host.Outcome State Fault Refusal
  | .next t => .next (f t)
  | .fault r => .fault r
  | .refused r => .refused r

end Sys2Proof.Machine
end

