-- ==== Sys2Proof/Certificates/Slice0/Obligations.lean ====
section
/-! DEFINITION. The statements for the provers. A docstring names the rule of spec/ a statement formalises; where it says
"model's choice" the named log entry stands in notes/assumptions/. Every statement about a state holds for all parameters,
all answers of the Transport and all moves of the host, since these are fields of the state. -/

open Sys2Proof Sys2Proof.Machine

/-! ### Reset and the command port -/

/-- The reset table R41 (the spec's decision D18): every entry of it. -/
def Obligations.ResetLeavesTheTable : Prop :=
  let s := State.reset
  s.op = none ∧ s.argA = none ∧ s.argB = none ∧ s.lum = none ∧ s.orbH = none ∧ s.orbV = none ∧
    s.seq = .idle ∧ s.busy = false ∧ s.status = .ok ∧ s.status.code = 0 ∧ s.faultSeen = false ∧
    s.pstate = .uninit ∧ s.pstate.code = 0 ∧
    (∀ id : LineId, s.lines.get id = none) ∧ s.trace = [] ∧ ∀ a : Byte, s.preg.read a = none

/-- Block reset at any time, a command in flight or not (R220, decision D18): no event is emitted, every piece of block state
is as after reset; the parameters and what the outside world will still do are not state of the block (R34). -/
def Obligations.BlockResetAtAnyTime : Prop :=
  ∀ (s : State) (rest : List HostMove), s.host = .rst :: rest →
    step s = .next { State.reset with
      params := s.params, answers := s.answers, answerRest := s.answerRest, host := rest }

/-- A step of an idle block to which a command is presented is that command's `exec` from the state in which the word is
accepted: latches loaded, `busy` 1, `seq` 0 (R72, decision D2); the step ends the pulse `done` (model's choice, log 5). -/
def Obligations.StepRunsThePresentedCommand : Prop :=
  ∀ (s : State) (w : CmdWord) (rest : List HostMove) (i : Instr), s.busy = false → s.host = .present w :: rest →
    decode w = .ok i →
    step s = exec i { s with
      op := some (w.extractLsb' 16 8), argA := some (w.extractLsb' 8 8), argB := some (w.extractLsb' 0 8),
      busy := true, seq := .running 0, done := false, host := rest }

/-- A step while a command is in flight carries that command on; a presented word waits and is not consumed (R24, R72, R73;
decisions D2, D34). That the step ends inside a command at all is the model's choice (log 2). -/
def Obligations.StepCarriesOnTheCommandInFlight : Prop :=
  ∀ (s : State) (i : Instr), s.busy = true → s.command = some i →
    (s.host = [] → step s = exec i { s with done := false }) ∧
    (∀ rest, s.host = .pass :: rest → step s = exec i { s with done := false, host := rest }) ∧
    (∀ w rest, s.host = .present w :: rest → step s = exec i { s with done := false })

/-- A step of an idle block to which nothing is presented only ends the pulse `done` (R74, decision D28; log 5). -/
def Obligations.IdleStepOnlyEndsDone : Prop :=
  ∀ s : State, s.busy = false →
    (s.host = [] → step s = .next { s with done := false }) ∧
    (∀ rest, s.host = .pass :: rest → step s = .next { s with done := false, host := rest })

/-- R76 (decision D4): a reserved opcode, `0x06` without `HAS_PROBE` among them, is accepted, emits no event, writes nothing
but `op`, `A`, `B`, `busy`, `seq` and `status`, and completes at once as ILLEGAL, with the pulse `done` (R74). -/
def Obligations.ReservedOpcodeCompletesIllegal : Prop :=
  ∀ (s : State) (w : CmdWord) (rest : List HostMove), s.busy = false → s.host = .present w :: rest →
    ((w.extractLsb' 16 8).toNat = 0 ∨ 7 ≤ (w.extractLsb' 16 8).toNat ∨
      ((w.extractLsb' 16 8).toNat = 6 ∧ s.params.hasProbe = false)) →
    step s = .next { s with
      op := some (w.extractLsb' 16 8), argA := some (w.extractLsb' 8 8), argB := some (w.extractLsb' 0 8),
      busy := false, seq := .idle, status := .illegal, done := true, host := rest }

/-- No word is accepted while a command is in flight (R73, decision D2): the latches keep the command in flight and the
presented word stays presented. -/
def Obligations.BusyBlockAcceptsNothing : Prop :=
  ∀ (s t : State) (w : CmdWord) (rest : List HostMove), s.busy = true → s.host = .present w :: rest →
    step s = .next t → t.op = s.op ∧ t.argA = s.argA ∧ t.argB = s.argB ∧ t.host = s.host

/-! ### Encoding -/

/-- Words written out from R70 and R75 (vector V1) decode to the commands they stand for. -/
def Obligations.SpecWordsDecode : Prop :=
  decode 0x01FFFF = .ok (.init 0xFF 0xFF) ∧ decode 0x02A55A = .ok (.pon 0xA5 0x5A) ∧
    decode 0x030000 = .ok (.poff 0 0) ∧ decode 0x0496FF = .ok (.lum 0x96 0xFF) ∧
    decode 0x050FEC = .ok (.orb 0x0F 0xEC) ∧ decode 0x060000 = .ok (.probe 0 0) ∧
    decode 0x070000 = .error (.reservedOpcode 0x07)

/-- Decoding an encoded command gives it back, and every word that decodes is the encoding of what it decodes to: no bit of a
command word is dropped (R70, R75). -/
def Obligations.DecodeAndEncodeAgree : Prop :=
  (∀ i : Instr, decode (encode i) = .ok i) ∧ ∀ (w : CmdWord) (i : Instr), decode w = .ok i → encode i = w

/-- The opcode map by its masks and matches (R75, decision D1), and that every other word is rejected (R76, D4). That opcode
`0x06` decodes to PROBE whatever `HAS_PROBE` says, so that the decoder rejects exactly 0 and 7 to 255, is the model's reading
(log 12, DEDUCED): R76 reserves `0x06` too without `HAS_PROBE`, and PROBE's meaning completes it as ILLEGAL
(ReservedOpcodeCompletesIllegal). -/
def Obligations.OpcodeMapByMaskAndMatch : Prop :=
  ∀ w : CmdWord,
    (w &&& 0xFF0000 = 0x010000 ↔ ∃ a b, decode w = .ok (.init a b)) ∧
    (w &&& 0xFF0000 = 0x020000 ↔ ∃ a b, decode w = .ok (.pon a b)) ∧
    (w &&& 0xFF0000 = 0x030000 ↔ ∃ a b, decode w = .ok (.poff a b)) ∧
    (w &&& 0xFF0000 = 0x040000 ↔ ∃ a b, decode w = .ok (.lum a b)) ∧
    (w &&& 0xFF0000 = 0x050000 ↔ ∃ a b, decode w = .ok (.orb a b)) ∧
    (w &&& 0xFF0000 = 0x060000 ↔ ∃ a b, decode w = .ok (.probe a b)) ∧
    ((w &&& 0xFF0000 = 0 ∨ 0x070000 ≤ w.toNat) ↔ decode w = .error (.reservedOpcode (w.extractLsb' 16 8)))

/-! ### The Transport -/

/-- R101 and R109 (decision D19): `SetLine` writes its own latch and no other, its level when acknowledged and `⊥` when
faulted; no other event writes a latch (R30); the event enters the trace with its acknowledgement (R33). R107 (decision D7):
RST, CS and PWR stay at what their latches say; DATA and CLK after a transfer of the bit-banged Transport are what `SHIFT` left,
not known where `SHIFT` is not given or the transfer faulted, and are as before on the hardware-assisted one. `wireLevel` is the
model's reading of the true levels (log 15). -/
def Obligations.SetLineWritesItsLatch : Prop :=
  ∀ (s : State) (id : LineId) (level : Level) (r : Reply),
    (s.acknowledge (.setLine id level) r).lines.get id = (match r with | .ok => some level | .fault => none) ∧
    (∀ other, other ≠ id → (s.acknowledge (.setLine id level) r).lines.get other = s.lines.get other) ∧
    (∀ d, (s.acknowledge (.wait d) r).lines = s.lines) ∧ (∀ b, (s.acknowledge (.xfer b) r).lines = s.lines) ∧
    (∀ e, (s.acknowledge e r).trace = s.trace ++ [⟨e, r⟩]) ∧
    (∀ e other, other ≠ .data → other ≠ .clk → s.wireLevel other = s.lines.get other →
      (s.acknowledge e r).wireLevel other = (s.acknowledge e r).lines.get other) ∧
    ∀ (b : Byte) (other : LineId), other = .data ∨ other = .clk →
      (s.params.transport = .bitbang → shiftOf s.params b = none ∨ r = .fault →
        (s.acknowledge (.xfer b) r).wireLevel other = none) ∧
      (∀ (xs ys : List ShiftEvent) (x : ShiftEvent), s.params.transport = .bitbang →
        shiftOf s.params b = some (xs ++ x :: ys) → shiftLineId x.line = other →
        (∀ y ∈ ys, shiftLineId y.line ≠ other) →
        (s.acknowledge (.xfer b) .ok).wireLevel other = some x.level) ∧
      (s.params.transport = .hwspi → (s.acknowledge (.xfer b) r).wireLevel other = s.wireLevel other)

/-- R108 and R110 (decision D15): `Wait` cannot fault; without `TRANSPORT_FAULTS` nothing faults; with it a fault flag on a
`SetLine` or an `Xfer` is a fault; whatever the flag and the received byte, an acknowledgement is one. -/
def Obligations.WhichEventsCanFault : Prop :=
  ∀ (s : State) (fault : Bool) (rx : Option Byte), s.answer = .ack fault rx →
    (∀ d, s.reply (.wait d) = some .ok) ∧
    (s.params.transportFaults = false → ∀ e, s.reply e = some .ok) ∧
    (s.params.transportFaults = true →
      (∀ id level, s.reply (.setLine id level) = some (if fault then .fault else .ok)) ∧
      ∀ b, s.reply (.xfer b) = some (if fault then .fault else .ok))

/-- R103 (decision D20): received bytes are discarded. Leaving them out of every answer changes no step but for that. -/
def Obligations.ReceivedBytesAreDiscarded : Prop :=
  ∀ s : State, step s.eraseRx = mapNext State.eraseRx (step s)

/-- R40 and R161, in part: no event the block emits depends on `pstate`, `lum`, `orb_h`, `orb_v`, `status`, `fault_seen`,
`preg` or the trace. Two states with the same parameters and the same Transport, in the same place of the command, emit the
same events for it, are in the same place after it, offer the same event, and report the same status. That these events are
the command's list, cut short by a fault alone, is said by the result statements, AbortProcedure and
UnacknowledgedEventWaits. That the Transport's answers and the parameters are fields of the state is the model's choice
(log 1, 3). -/
def Obligations.EventsDependOnCommandAndParametersAlone : Prop :=
  ∀ (i : Instr) (s u : State), u.params = s.params → u.answers = s.answers → u.answerRest = s.answerRest →
    u.busy = s.busy → u.seq = s.seq →
    ∃ (t v : State) (d : List TraceEntry), exec i s = .next t ∧ exec i u = .next v ∧
      t.trace = s.trace ++ d ∧ v.trace = u.trace ++ d ∧ v.busy = t.busy ∧ v.seq = t.seq ∧ v.answers = t.answers ∧
      (t.busy = true → v.port = t.port) ∧ (t.busy = false → v.status = t.status)

/-- R203 (vector F17): an event that is not acknowledged stays offered, `busy` stays 1, `status` is not written, and nothing
after it is emitted. Where such a step ends is the model's choice (log 2, 3). -/
def Obligations.UnacknowledgedEventWaits : Prop :=
  ∀ (i : Instr) (s : State) (k : Nat) (e : Event), wellFormed s.params i = true → s.atStart →
    (commandEvents s.params i)[k]? = some e → s.acksAll ((commandEvents s.params i).take k) →
    (s.afterAnswers k).answer = .hold →
    ∃ t, exec i s = .next t ∧ t.busy = true ∧ t.seq = .running k ∧ t.port = some e ∧ t.status = s.status ∧
      t.trace = s.trace ++ okEntries ((commandEvents s.params i).take k) ∧ t.answers = s.answers.drop (k + 1)

/-- R203, whole: while the Transport never acknowledges the event offered to it, no step but block reset moves the block: it
stays at that event with `busy = 1`, with no timeout, no fault and no completion. The conclusion holds the hypotheses again
(with InvariantKeptByEveryStep for `Inv`), so it holds for ever. -/
def Obligations.StuckForEver : Prop :=
  ∀ (s : State), s.Inv → s.busy = true → s.answers = [] → s.answerRest = .hold → (∀ rest, s.host ≠ .rst :: rest) →
    ∃ t, step s = .next t ∧ t.busy = true ∧ t.seq = s.seq ∧ t.port = s.port ∧ t.trace = s.trace ∧ t.lines = s.lines ∧
      t.status = s.status ∧ t.faultSeen = s.faultSeen ∧ t.command = s.command ∧ t.answers = [] ∧ t.answerRest = .hold

/-- A command that waits at an event goes on from that event when the acknowledgement comes (R24, R112; decisions D6, D34):
once all events from there on are acknowledged it completes as OK, and none of them is emitted twice. -/
def Obligations.WaitingCommandGoesOn : Prop :=
  ∀ (i : Instr) (s : State) (k : Nat), wellFormed s.params i = true → s.busy = true → s.seq = .running k →
    s.acksAll ((commandEvents s.params i).drop k) →
    ∃ t, exec i s = .next t ∧ t.busy = false ∧ t.seq = .idle ∧ t.status = .ok ∧ t.done = true ∧
      t.trace = s.trace ++ okEntries ((commandEvents s.params i).drop k)

/-! ### The Frame Protocol -/

/-- R80 and R51: a register word goes out as seven events, the address byte before the value byte, and its sixteen bits are
on the data line in the order bit 15 to bit 0. -/
def Obligations.RegisterWordOnTheWire : Prop :=
  ∀ (t : Transport) (w : Word16) (done cut : State → State),
    (writeWord t w done cut).map Item.event =
      [.setLine .cs .low, .wait (tSettle t), .xfer (w.extractLsb' 8 8), .xfer (w.extractLsb' 0 8), .wait (tSettle t),
        .setLine .cs .high, .wait (tIdle t)] ∧
    ((writeWord t w done cut).map Item.event).flatMap wireBits =
      (List.range 16).map (fun n => w.getLsbD (15 - n))

/-- The burst of `INIT_TABLE` and every transaction (R121, R122, R123; decision D22): the bytes as they stand, `5 + N`
events, chip-select asserted once and deasserted once, every byte strictly between, a settle wait on each side. With a `SHIFT`
that meets R106 (decision D7), DATA read at the clock's pulses gives the bytes' bits, most significant first, eight for each
byte; the idle level and the edge are those of the `SHIFT`, one choice for all transactions (log 15). -/
def Obligations.TransactionShape : Prop :=
  (∀ (t : Transport) (bs : List Byte) (done cut : State → State),
    let es := (burstWrite t bs done cut).map Item.event
    es.length = 5 + bs.length ∧ xferBytes es = bs ∧
      es.count (.setLine .cs .low) = 1 ∧ es.count (.setLine .cs .high) = 1 ∧
      es[0]? = some (.setLine .cs .low) ∧ es[1]? = some (.wait (tSettle t)) ∧
      es[bs.length + 2]? = some (.wait (tSettle t)) ∧ es[bs.length + 3]? = some (.setLine .cs .high) ∧
      es[bs.length + 4]? = some (.wait (tIdle t)) ∧
      ∀ (n : Nat) (b : Byte), es[n]? = some (.xfer b) → 2 ≤ n ∧ n < bs.length + 2) ∧
  ∀ (p : Params) (table : List (List ShiftEvent)), p.wf = true → p.shift = some table →
    p.transport = .bitbang ∧ ∃ idle edge : Level, ∀ (bs : List Byte) (done cut : State → State),
      ∃ xs, waveform p ((burstWrite p.transport bs done cut).map Item.event) = some xs ∧
        clockAfter idle xs = idle ∧
        samples edge none idle xs = bs.flatMap (fun b => (List.range 8).map fun n => some (bitLevel (b.getLsbD (7 - n))))

/-- `writeRegisters` sends each word as a transaction of its own, in order, never two under one chip-select assertion
(R125): `7 · M` events. -/
def Obligations.WordsAreNeverCoalesced : Prop :=
  ∀ (t : Transport) (rs : List RegWrite),
    (writeRegisters t rs).map Item.event =
      rs.flatMap (fun r => wordEvents t (r.word.extractLsb' 8 8) (r.word.extractLsb' 0 8)) ∧
    (writeRegisters t rs).length = 7 * rs.length

/-! ### The Register Encoder -/

/-- R141, R142 and R143: for every operand the first word is `0x1107` and the second is `0x13` with the operand clamped to
5 to 100. -/
def Obligations.LuminanceWords : Prop :=
  ∀ n : Byte, ∃ w : Word16, encodeLuminance n = [0x1107, w] ∧ w.extractLsb' 8 8 = (0x13 : Byte) ∧
    (w.extractLsb' 0 8).toNat = (if n.toNat < 5 then 5 else if 100 < n.toNat then 100 else n.toNat)

/-- R145 and R146 (decisions D24, D25) for all 65536 operand pairs: the address bytes, the clamped offsets in the low five
bits, the whole value bytes `tc8` and `0x80 | tc8`, bit 7 of the vertical word set, each word from its own operand. -/
def Obligations.OrbitWords : Prop :=
  ∀ h v : Byte, ∃ w0 w1 : Word16, encodeOrbit h v = [w0, w1] ∧
    w0.extractLsb' 8 8 = (0x02 : Byte) ∧ w1.extractLsb' 8 8 = (0x03 : Byte) ∧
    ((w0.extractLsb' 0 8).toNat : Int) = (max (-10) (min 10 (s8 h))) % 256 ∧
    w1.extractLsb' 0 8 = (0x80 : Byte) ||| BitVec.ofInt 8 (max (-10) (min 10 (s8 v))) ∧
    ((w0.extractLsb' 0 5).toInt = max (-10) (min 10 (s8 h))) ∧
    ((w1.extractLsb' 0 5).toInt = max (-10) (min 10 (s8 v))) ∧ w1.getLsbD 7 = true

/-- The number readings R10 and the clamp (decision D33): `s8` and `tc8` are inverse to each other on their ranges, and
`clamp` is the value of `min` and `max`. -/
def Obligations.NumberReadings : Prop :=
  (∀ b : Byte, -128 ≤ s8 b ∧ s8 b ≤ 127 ∧ tc8 (s8 b) = b) ∧
    (∀ i : Int, -128 ≤ i → i ≤ 127 → s8 (tc8 i) = i ∧ ((tc8 i).toNat : Int) = i % 256) ∧
    ∀ x lo hi : Int, lo ≤ hi → clamp x lo hi = max lo (min hi x)

/-- R147, whole: the two sequences, both at register `0x00`, and the source's property: PON followed by POFF on a Transport
that acknowledges puts exactly the words `0x004D`, `0x004F`, `0x004D`, `0x004C` on the bus. -/
def Obligations.PowerModeWords : Prop :=
  panelOnSequence = [0x004D, 0x004F] ∧ panelOffSequence = [0x004D, 0x004C] ∧
    (∀ w ∈ panelOnSequence ++ panelOffSequence, w.extractLsb' 8 8 = (0x00 : Byte)) ∧
    ∀ (s : State) (a b c d : Byte), s.Reliable → s.busy = false →
      ∃ t u es, exec (.pon a b) s = .next t ∧ exec (.poff c d) t = .next u ∧
        u.trace = s.trace ++ okEntries es ∧
        xferBytes es = [0x00, 0x4D, 0x00, 0x4F, 0x00, 0x4D, 0x00, 0x4C]

/-! ### What each command does when the Transport acknowledges its events -/

/-- INIT (R164, R166, R39; decisions D9 to D12, D23) from any state in which no command is in flight or one was just
accepted. Everything not named is unchanged. The panel image after it is the value of `BURST_MAP`, or `⊥` everywhere;
`panelKnown` is the model's own (log 7). -/
def Obligations.InitResult : Prop :=
  ∀ (a b : Byte) (s : State),
    let t := s.params.transport
    let es := initEvents s.params
    s.atStart → s.acksAll es →
    exec (.init a b) s = .next { s with
      lum := some 15, orbH := some 0, orbV := some 0, pstate := .active,
      lines := { data := (match t with | .bitbang => some .low | .hwspi => s.lines.data),
                 clk := (match t with | .bitbang => some .low | .hwspi => s.lines.clk),
                 rst := some .high, cs := some .high,
                 pwr := if s.params.hasPwr then some .low else s.lines.pwr },
      trace := s.trace ++ okEntries es, port := none, status := .ok, busy := false, seq := .idle, done := true,
      preg := burstImage s.params.burstMap, panelKnown := true, answers := s.answers.drop es.length }

/-- PON (R168, R169; decisions D9, D13, D14, D35). Everything not named is unchanged, the shadows among it. What the panel
image records is the model's reading of R38 and R162 (log 7, 8). -/
def Obligations.PonResult : Prop :=
  ∀ (a b : Byte) (s : State),
    let t := s.params.transport
    let es : List Event := (if s.params.hasPwr then [.setLine .pwr .high, .wait 16000] else [])
      ++ wordEvents t 0x00 0x4D ++ wordEvents t 0x00 0x4F
    s.atStart → s.acksAll es →
    exec (.pon a b) s = .next { s with
      pstate := (match s.pstate with | .uninit => .uninit | _ => .active),
      lines := { s.lines with cs := some .high, pwr := if s.params.hasPwr then some .high else s.lines.pwr },
      trace := s.trace ++ okEntries es, port := none, status := .ok, busy := false, seq := .idle, done := true,
      preg := (s.preg.set 0x00 (if s.panelKnown = true ∧ s.pstate = .active then some 0x4D else none)).set 0x00
        (if s.panelKnown = true ∧ s.pstate ≠ .uninit then some 0x4F else none),
      answers := s.answers.drop es.length }

/-- POFF (R170, R171; decisions D9, D13). Everything not named is unchanged, the shadows among it. What the panel image
records is the model's reading of R38, R162 and U16 (log 7, 8, 9). -/
def Obligations.PoffResult : Prop :=
  ∀ (a b : Byte) (s : State),
    let t := s.params.transport
    let es : List Event := wordEvents t 0x00 0x4D ++ wordEvents t 0x00 0x4C
      ++ (if s.params.hasPwr then [.wait 16000, .setLine .pwr .low] else [])
    s.atStart → s.acksAll es →
    exec (.poff a b) s = .next { s with
      pstate := (match s.pstate with | .uninit => .uninit | _ => .powersave),
      lines := { s.lines with cs := some .high, pwr := if s.params.hasPwr then some .low else s.lines.pwr },
      trace := s.trace ++ okEntries es, port := none, status := .ok, busy := false, seq := .idle, done := true,
      preg := if s.params.hasPwr then []
        else (s.preg.set 0x00 (if s.panelKnown = true ∧ s.pstate = .active then some 0x4D else none)).set 0x00
          (if s.panelKnown = true ∧ s.pstate = .active then some 0x4C else none),
      answers := s.answers.drop es.length }

/-- LUM (R172; decisions D10, D23): two words, the shadow takes the clamped operand in ACTIVE and `⊥` in every other state.
Everything not named is unchanged, `pstate` among it. What the panel image records: log 7. -/
def Obligations.LumResult : Prop :=
  ∀ (n b : Byte) (s : State),
    let t := s.params.transport
    let c : Nat := if n.toNat < 5 then 5 else if 100 < n.toNat then 100 else n.toNat
    let es : List Event := wordEvents t 0x11 0x07 ++ wordEvents t 0x13 (BitVec.ofNat 8 c)
    s.atStart → s.acksAll es →
    exec (.lum n b) s = .next { s with
      lum := if s.pstate = .active then some c else none,
      lines := { s.lines with cs := some .high },
      trace := s.trace ++ okEntries es, port := none, status := .ok, busy := false, seq := .idle, done := true,
      preg := (s.preg.set 0x11 (if s.panelKnown = true ∧ s.pstate = .active then some 0x07 else none)).set 0x13
        (if s.panelKnown = true ∧ s.pstate = .active then some (BitVec.ofNat 8 c) else none),
      answers := s.answers.drop 14 }

/-- ORB (R174; decisions D10, D23 to D25): two words, the horizontal one first, each shadow from its own operand. Everything
not named is unchanged, `pstate` among it. What the panel image records: log 7. -/
def Obligations.OrbResult : Prop :=
  ∀ (h v : Byte) (s : State),
    let t := s.params.transport
    let hc : Int := max (-10) (min 10 (s8 h))
    let vc : Int := max (-10) (min 10 (s8 v))
    let es : List Event := wordEvents t 0x02 (BitVec.ofInt 8 hc) ++ wordEvents t 0x03 (0x80 ||| BitVec.ofInt 8 vc)
    s.atStart → s.acksAll es →
    exec (.orb h v) s = .next { s with
      orbH := if s.pstate = .active then some hc else none,
      orbV := if s.pstate = .active then some vc else none,
      lines := { s.lines with cs := some .high },
      trace := s.trace ++ okEntries es, port := none, status := .ok, busy := false, seq := .idle, done := true,
      preg := (s.preg.set 0x02
          (if s.panelKnown = true ∧ s.pstate = .active then some (BitVec.ofInt 8 hc) else none)).set 0x03
        (if s.panelKnown = true ∧ s.pstate = .active then some (0x80 ||| BitVec.ofInt 8 vc) else none),
      answers := s.answers.drop 14 }

/-- PROBE with `HAS_PROBE` (R175; decision D21): the four probe words in their order, `⊥` at the four addresses. Everything
not named is unchanged. -/
def Obligations.ProbeResult : Prop :=
  ∀ (a b : Byte) (s : State), s.params.hasProbe = true →
    let t := s.params.transport
    let p := s.params.probeWords
    let word : Word16 → List Event := fun w => wordEvents t (w.extractLsb' 8 8) (w.extractLsb' 0 8)
    let es := word p.enableRead ++ word p.setAddress ++ word p.triggerRead ++ word p.disableRead
    s.atStart → s.acksAll es →
    exec (.probe a b) s = .next { s with
      lines := { s.lines with cs := some .high },
      trace := s.trace ++ okEntries es, port := none, status := .ok, busy := false, seq := .idle, done := true,
      preg := (((s.preg.set (p.enableRead.extractLsb' 8 8) none).set (p.setAddress.extractLsb' 8 8) none).set
        (p.triggerRead.extractLsb' 8 8) none).set (p.disableRead.extractLsb' 8 8) none,
      answers := s.answers.drop 28 }

/-- V12 item 1 (R108, R161): on a Transport that never faults and always acknowledges, every command completes, as OK, or as
ILLEGAL when its opcode is reserved; `fault_seen` is unchanged; after OK chip-select is high. -/
def Obligations.ReliableTransportCompletesEveryCommand : Prop :=
  ∀ (i : Instr) (s : State), s.Reliable → s.busy = false →
    ∃ t, exec i s = .next t ∧ t.busy = false ∧ t.seq = .idle ∧ t.done = true ∧
      t.status = (if wellFormed s.params i = true then .ok else .illegal) ∧ t.faultSeen = s.faultSeen ∧
      (t.status = .ok → t.lines.cs = some .high)

/-- R78, whole: every operand byte of LUM and every operand pair of ORB is a legal command with a defined result: its word
decodes to it, in every state it does exactly what the operand clamped into its range does (the silent clamp the rule quotes),
and on a Transport that acknowledges it completes as OK. -/
def Obligations.OperandValuesAreNeverIllegal : Prop :=
  ∀ (a b : Byte) (s : State),
    decode ((0x04 : Byte) ++ a ++ b) = .ok (.lum a b) ∧ decode ((0x05 : Byte) ++ a ++ b) = .ok (.orb a b) ∧
    exec (.lum a b) s = exec (.lum (BitVec.ofNat 8 (max 5 (min 100 a.toNat))) b) s ∧
    exec (.orb a b) s = exec (.orb (BitVec.ofInt 8 (max (-10) (min 10 (s8 a))))
      (BitVec.ofInt 8 (max (-10) (min 10 (s8 b))))) s ∧
    (s.Reliable → s.busy = false →
      (∃ t, exec (.lum a b) s = .next t ∧ t.busy = false ∧ t.status = .ok) ∧
      ∃ t, exec (.orb a b) s = .next t ∧ t.busy = false ∧ t.status = .ok)

/-- R173, whole: LUM and ORB change `pstate` in no state, however the Transport answers, and do not read it to decide what to
send: with any other `pstate` the same events go out. (They do read it to write the shadow, R172: LumResult, OrbResult.) -/
def Obligations.LumAndOrbKeepPstateAndSendTheSame : Prop :=
  ∀ (i : Instr), (∃ n b, i = .lum n b) ∨ (∃ h v, i = .orb h v) → ∀ (s : State) (q : PState),
    ∃ t u, exec i s = .next t ∧ exec i { s with pstate := q } = .next u ∧ t.pstate = s.pstate ∧ u.pstate = q ∧
      u.trace = t.trace ∧ u.port = t.port ∧ u.busy = t.busy ∧ u.status = t.status

/-- The transition table R176 (decision D9): `pstate` after a command that completed with status OK. -/
def Obligations.TransitionTable : Prop :=
  ∀ (i : Instr) (s t : State), s.atStart → exec i s = .next t → t.busy = false → t.status = .ok →
    t.pstate = match i, s.pstate with
      | .init _ _, _ => .active
      | .pon _ _, .uninit => .uninit
      | .pon _ _, _ => .active
      | .poff _ _, .uninit => .uninit
      | .poff _ _, _ => .powersave
      | .lum _ _, q => q
      | .orb _ _, q => q
      | .probe _ _, q => q

/-! ### What INIT guarantees, event counts, lines and durations -/

/-- R167: in INIT every byte comes after a `Wait(16000)` that comes after `SetLine(RST, 1)`; reset is released only after two
`Wait(16000)` that come after `SetLine(RST, 0)`; chip-select is driven high before reset is
released and not asserted before that. -/
def Obligations.InitNeverWritesBeforeReady : Prop :=
  ∀ (p : Params) (a b : Byte), ∃ rel : Nat, (commandEvents p (.init a b))[rel]? = some (.setLine .rst .high) ∧
    (∀ m, (commandEvents p (.init a b))[m]? = some (.setLine .rst .high) → m = rel) ∧
    (∀ (m : Nat) (x : Byte), (commandEvents p (.init a b))[m]? = some (.xfer x) →
      ∃ k, rel < k ∧ k < m ∧ (commandEvents p (.init a b))[k]? = some (.wait 16000)) ∧
    (∃ j k l, j < k ∧ k < l ∧ l < rel ∧ (commandEvents p (.init a b))[j]? = some (.setLine .rst .low) ∧
      (commandEvents p (.init a b))[k]? = some (.wait 16000) ∧ (commandEvents p (.init a b))[l]? = some (.wait 16000)) ∧
    (∃ j, j < rel ∧ (commandEvents p (.init a b))[j]? = some (.setLine .cs .high)) ∧
    ∀ m, (commandEvents p (.init a b))[m]? = some (.setLine .cs .low) → rel < m

/-- R165 and R177: the number of events and the sum of the waits of each command, and V12 item 4: its number of bytes. -/
def Obligations.EventCountsAndWaitSums : Prop :=
  ∀ (p : Params) (x y : Byte),
    let n := p.initTable.length
    let pw := if p.hasPwr then 1 else 0
    let bb := p.transport = .bitbang
    (commandEvents p (.init x y)).length = (if bb then 14 else 12) + pw + n ∧
    waitSum (commandEvents p (.init x y)) = (if bb then 48600 else 49002) ∧
    (xferBytes (commandEvents p (.init x y))).length = n ∧
    (commandEvents p (.pon x y)).length = 14 + 2 * pw ∧
    waitSum (commandEvents p (.pon x y)) = (if bb then 1200 else 2004) + 16000 * pw ∧
    (commandEvents p (.poff x y)).length = 14 + 2 * pw ∧
    waitSum (commandEvents p (.poff x y)) = (if bb then 1200 else 2004) + 16000 * pw ∧
    (commandEvents p (.lum x y)).length = 14 ∧ waitSum (commandEvents p (.lum x y)) = (if bb then 1200 else 2004) ∧
    (commandEvents p (.orb x y)).length = 14 ∧ waitSum (commandEvents p (.orb x y)) = (if bb then 1200 else 2004) ∧
    (commandEvents p (.probe x y)).length = 28 ∧ (bb → waitSum (commandEvents p (.probe x y)) = 2400)

/-- R8 and R101: no command drives a line that does not exist; R102: a `Wait` has one of the four durations; R221: only INIT
drives RST. -/
def Obligations.EventsUseExistingLinesAndDurations : Prop :=
  ∀ (p : Params) (i : Instr) (e : Event), e ∈ commandEvents p i →
    (∀ level, e = .setLine .data level → p.transport = .bitbang) ∧
    (∀ level, e = .setLine .clk level → p.transport = .bitbang) ∧
    (∀ level, e = .setLine .pwr level → p.hasPwr = true) ∧
    (∀ level, e = .setLine .rst level → ∃ a b, i = .init a b) ∧
    ∀ d, e = .wait d → d = tSettle p.transport ∨ d = tIdle p.transport ∨ d = 16000

/-! ### The abort procedure -/

/-- The abort procedure R196 for every command and every event of it that faults (decision D16): the faulted event with its
fault is in the trace, then `SetLine(CS,1)` with whatever acknowledgement, then `Wait(T_IDLE)`, and nothing else of the
command; `fault_seen` and `status` are set; the block is idle; a faulted `SetLine` leaves its line unknown (R109), and CS is
high unless the procedure's own `SetLine(CS,1)` faulted (R196, vector F5). That `SetLine(CS,1)` goes out a second time when
the faulted event was the closing one follows R196, R197 and vector F4 against the last sentence of R122 (log 16, DEDUCED). -/
def Obligations.AbortProcedure : Prop :=
  ∀ (i : Instr) (s : State) (k : Nat) (e : Event) (r : Reply), wellFormed s.params i = true → s.atStart →
    s.FaultsAt (commandEvents s.params i) k e r →
    ∃ t, exec i s = .next t ∧
      t.trace = s.trace ++ okEntries ((commandEvents s.params i).take k)
        ++ [⟨e, .fault⟩, ⟨.setLine .cs .high, r⟩, ⟨.wait (tIdle s.params.transport), .ok⟩] ∧
      t.status = .fault ∧ t.faultSeen = true ∧ t.busy = false ∧ t.seq = .idle ∧ t.done = true ∧ t.port = none ∧
      t.lines.cs = (match r with | .ok => some .high | .fault => none) ∧
      (∀ id level, e = .setLine id level → id ≠ .cs → t.lines.get id = none) ∧
      t.answers = s.answers.drop (k + 3)

/-- R162, R172 (decision D10): a LUM aborted in its first word leaves `lum` alone, one aborted in its second word leaves `⊥`;
`pstate` and the orbit shadows are unchanged (R176), and the panel registers it addressed and only those are `⊥` or as
rewritten: the word it was cut in is `⊥` (R38). -/
def Obligations.LumAbort : Prop :=
  ∀ (n b : Byte) (s t : State) (k : Nat) (e : Event) (r : Reply), s.atStart →
    s.FaultsAt (commandEvents s.params (.lum n b)) k e r → exec (.lum n b) s = .next t →
    t.lum = (if k < 7 then s.lum else none) ∧ t.orbH = s.orbH ∧ t.orbV = s.orbV ∧ t.pstate = s.pstate ∧
    (if k < 7 then t.preg.read 0x11 = none ∧ t.preg.read 0x13 = s.preg.read 0x13 else t.preg.read 0x13 = none) ∧
    ∀ a, a ≠ 0x11 → a ≠ 0x13 → t.preg.read a = s.preg.read a

/-- R162, R174 (decision D10): an ORB aborted in its first word leaves `orb_h = ⊥` and `orb_v` alone; one aborted in its
second word keeps the `orb_h` just written and leaves `orb_v = ⊥`. -/
def Obligations.OrbAbort : Prop :=
  ∀ (h v : Byte) (s t : State) (k : Nat) (e : Event) (r : Reply), s.atStart →
    s.FaultsAt (commandEvents s.params (.orb h v)) k e r → exec (.orb h v) s = .next t →
    t.orbH = (if k < 7 then none else if s.pstate = .active then some (max (-10) (min 10 (s8 h))) else none) ∧
    t.orbV = (if k < 7 then s.orbV else none) ∧ t.lum = s.lum ∧ t.pstate = s.pstate ∧
    (if k < 7 then t.preg.read 0x02 = none ∧ t.preg.read 0x03 = s.preg.read 0x03 else t.preg.read 0x03 = none) ∧
    ∀ a, a ≠ 0x02 → a ≠ 0x03 → t.preg.read a = s.preg.read a

/-- R166, R176 (decision D10): an INIT aborted at its first `SetLine(RST,0)` or before leaves `pstate` and the shadows as they
were; one aborted later leaves RESET and `⊥`, and every panel register `⊥`. -/
def Obligations.InitAbort : Prop :=
  ∀ (a b : Byte) (s t : State) (k : Nat) (e : Event) (r : Reply), s.atStart →
    s.FaultsAt (commandEvents s.params (.init a b)) k e r → exec (.init a b) s = .next t →
    if k ≤ (match s.params.transport with | .bitbang => 2 | .hwspi => 0) then
      t.pstate = s.pstate ∧ t.lum = s.lum ∧ t.orbH = s.orbH ∧ t.orbV = s.orbV
    else
      t.pstate = .reset ∧ t.lum = none ∧ t.orbH = none ∧ t.orbV = none ∧ ∀ x, t.preg.read x = none

/-- R168, R170, R176: an aborted PON leaves `pstate` and the shadows alone; an aborted POFF moves `pstate` exactly when the
fault came after its confirm word's last event; the shadows are untouched. -/
def Obligations.PowerCommandAbort : Prop :=
  ∀ (a b : Byte) (s t : State) (k : Nat) (e : Event) (r : Reply), s.atStart →
    (s.FaultsAt (commandEvents s.params (.pon a b)) k e r → exec (.pon a b) s = .next t →
      t.pstate = s.pstate ∧ t.lum = s.lum ∧ t.orbH = s.orbH ∧ t.orbV = s.orbV) ∧
    (s.FaultsAt (commandEvents s.params (.poff a b)) k e r → exec (.poff a b) s = .next t →
      t.pstate = (if 14 ≤ k then (match s.pstate with | .uninit => .uninit | _ => .powersave) else s.pstate) ∧
      t.lum = s.lum ∧ t.orbH = s.orbH ∧ t.orbV = s.orbV)

/-- R162, R175, R176: an aborted PROBE leaves `pstate` and the shadows alone; R38: the register of the word it was cut in is
`⊥`. -/
def Obligations.ProbeAbort : Prop :=
  ∀ (a b : Byte) (s t : State) (k : Nat) (e : Event) (r : Reply) (w : Word16), s.params.hasProbe = true → s.atStart →
    s.FaultsAt (commandEvents s.params (.probe a b)) k e r → (probeSequence s.params.probeWords)[k / 7]? = some w →
    exec (.probe a b) s = .next t →
    t.pstate = s.pstate ∧ t.lum = s.lum ∧ t.orbH = s.orbH ∧ t.orbV = s.orbV ∧
    t.preg.read (w.extractLsb' 8 8) = none

/-- R27 and R201 (decision D17): only block reset clears `fault_seen`, whatever the command and the Transport's answers. -/
def Obligations.FaultSeenIsSticky : Prop :=
  ∀ s t : State, step s = .next t → s.faultSeen = true → t.faultSeen = true ∨ ∃ rest, s.host = .rst :: rest

/-- R26 and R74 (decisions D3, D28): `status`, `done` and `fault_seen` are written when a command completes and at no other
time; a command that completes leaves the block idle with `done` raised, and FAULT goes with `fault_seen`. -/
def Obligations.FlagsAreWrittenAtCompletion : Prop :=
  ∀ (i : Instr) (s t : State), exec i s = .next t →
    (t.busy = true → t.status = s.status ∧ t.done = s.done ∧ t.faultSeen = s.faultSeen ∧ t.seq ≠ .idle) ∧
    (t.busy = false → t.seq = .idle ∧ t.done = true ∧
      (t.status = .fault → t.faultSeen = true) ∧ (t.status ≠ .fault → t.faultSeen = s.faultSeen))

/-! ### Frames: what a command leaves unchanged, however the Transport answers -/

/-- The frame of LUM (R172): only `lum`, the latch CS, the flags, the trace, the port, the answers used, `panelKnown` and the
panel registers `0x11` and `0x13` can change. -/
def Obligations.LumFrame : Prop :=
  ∀ (n b : Byte) (s t : State), exec (.lum n b) s = .next t →
    t.params = s.params ∧ t.op = s.op ∧ t.argA = s.argA ∧ t.argB = s.argB ∧ t.orbH = s.orbH ∧ t.orbV = s.orbV ∧
    t.pstate = s.pstate ∧ t.host = s.host ∧ t.answerRest = s.answerRest ∧
    (∀ id : LineId, id ≠ .cs → t.lines.get id = s.lines.get id) ∧ (∃ d, t.trace = s.trace ++ d) ∧
    ∀ a : Byte, a ≠ 0x11 → a ≠ 0x13 → t.preg.read a = s.preg.read a

/-- The frame of ORB (R174): only the orbit shadows, the latch CS, the flags, the trace, the port, the answers used,
`panelKnown` and the panel registers `0x02` and `0x03` can change. -/
def Obligations.OrbFrame : Prop :=
  ∀ (h v : Byte) (s t : State), exec (.orb h v) s = .next t →
    t.params = s.params ∧ t.op = s.op ∧ t.argA = s.argA ∧ t.argB = s.argB ∧ t.lum = s.lum ∧
    t.pstate = s.pstate ∧ t.host = s.host ∧ t.answerRest = s.answerRest ∧
    (∀ id : LineId, id ≠ .cs → t.lines.get id = s.lines.get id) ∧ (∃ d, t.trace = s.trace ++ d) ∧
    ∀ a : Byte, a ≠ 0x02 → a ≠ 0x03 → t.preg.read a = s.preg.read a

/-- The frame of PROBE (R175): `pstate` and the shadows never change; of the panel image only the four addressed registers
can. -/
def Obligations.ProbeFrame : Prop :=
  ∀ (a b : Byte) (s t : State), exec (.probe a b) s = .next t →
    t.params = s.params ∧ t.op = s.op ∧ t.argA = s.argA ∧ t.argB = s.argB ∧ t.lum = s.lum ∧ t.orbH = s.orbH ∧
    t.orbV = s.orbV ∧ t.pstate = s.pstate ∧ t.host = s.host ∧ t.answerRest = s.answerRest ∧
    (∀ id : LineId, id ≠ .cs → t.lines.get id = s.lines.get id) ∧ (∃ d, t.trace = s.trace ++ d) ∧
    ∀ x : Byte, (∀ w ∈ probeSequence s.params.probeWords, x ≠ w.extractLsb' 8 8) → t.preg.read x = s.preg.read x

/-- The frame of PON and POFF (R168, R170, R221): the shadows, the latches DATA, CLK and RST never change, PWR only with
`HAS_PWR`; of the panel image only register `0x00`, but that POFF driving PWR low loses the whole image (U16, log 9). -/
def Obligations.PowerCommandFrame : Prop :=
  ∀ (i : Instr), (∃ a b, i = .pon a b) ∨ (∃ a b, i = .poff a b) → ∀ s t : State, exec i s = .next t →
    t.params = s.params ∧ t.op = s.op ∧ t.argA = s.argA ∧ t.argB = s.argB ∧ t.lum = s.lum ∧ t.orbH = s.orbH ∧
    t.orbV = s.orbV ∧ t.host = s.host ∧ t.answerRest = s.answerRest ∧
    t.lines.data = s.lines.data ∧ t.lines.clk = s.lines.clk ∧ t.lines.rst = s.lines.rst ∧
    (s.params.hasPwr = false → t.lines.pwr = s.lines.pwr) ∧ (∃ d, t.trace = s.trace ++ d) ∧
    ∀ x : Byte, x ≠ 0x00 → t.preg.read x = s.preg.read x ∨
      (s.params.hasPwr = true ∧ (∃ a b, i = .poff a b) ∧ t.preg = [])

/-- The frame of INIT (R164, R166): parameters, latches of the command and the host's moves never change; DATA and CLK only
for BITBANG, PWR only with `HAS_PWR`; `pstate`, shadows and panel image are as before, as R166 leaves them at the reset
assertion, or as it leaves them at the end. -/
def Obligations.InitFrame : Prop :=
  ∀ (a b : Byte) (s t : State), exec (.init a b) s = .next t →
    t.params = s.params ∧ t.op = s.op ∧ t.argA = s.argA ∧ t.argB = s.argB ∧ t.host = s.host ∧
    t.answerRest = s.answerRest ∧
    (s.params.transport = .hwspi → t.lines.data = s.lines.data ∧ t.lines.clk = s.lines.clk) ∧
    (s.params.hasPwr = false → t.lines.pwr = s.lines.pwr) ∧ (∃ d, t.trace = s.trace ++ d) ∧
    (t.pstate = s.pstate ∧ t.lum = s.lum ∧ t.orbH = s.orbH ∧ t.orbV = s.orbV ∧
        (t.preg = s.preg ∨ s.busy = true ∧ t.preg = []) ∨
      t.pstate = .reset ∧ t.lum = none ∧ t.orbH = none ∧ t.orbV = none ∧ t.preg = [] ∨
      t.pstate = .active ∧ t.lum = some 15 ∧ t.orbH = some 0 ∧ t.orbV = some 0 ∧ t.preg = burstImage s.params.burstMap)

/-- No step changes the construction parameters: they are arguments of the step (R7, R34), and the wiring fixed with them
cannot change while the block runs (R42). That they are a field of State is the model's choice (log 1, DESIGN CHOICE). -/
def Obligations.ParametersNeverChange : Prop :=
  ∀ s t : State, step s = .next t → t.params = s.params

/-! ### Invariants -/

/-- The invariant holds after reset. -/
def Obligations.InvariantAtReset : Prop := State.reset.Inv

/-- Every step keeps the invariant: shadows in range (R23, R150), `busy` and `seq` in step (R24, R25), the event in flight
offered (R112), no latch for a line that does not exist (R30), no FAULT without `fault_seen` (R27), `⊥` in the shadows before
the panel is initialised (R162, R166), the panel image in canonical form. -/
def Obligations.InvariantKeptByEveryStep : Prop :=
  ∀ s t : State, s.Inv → step s = .next t → t.Inv

/-- Under the invariant no step stops: the block's behaviour is total given the Transport's answers (93, "the block's own
behaviour is total"). -/
def Obligations.InvariantStepNeverStops : Prop :=
  ∀ s : State, s.Inv → ∃ t, step s = .next t

/-- R23 and R112: under the invariant the shadows survive in the widths the host sees them in, 7 bits and 5 bits two's
complement. -/
def Obligations.StatusOutputsHoldTheShadows : Prop :=
  ∀ s : State, s.Inv →
    s.lumOut.map BitVec.toNat = s.lum ∧ s.orbHOut.map BitVec.toInt = s.orbH ∧ s.orbVOut.map BitVec.toInt = s.orbV

/-- After reset the trace is empty and the bus stands idle. -/
def Obligations.BusDisciplineAtReset : Prop := State.reset.BusInv

/-- R62 with R121 and R122, faults or no faults (V12 items 2 and 3): every step keeps the bus discipline of the whole
trace. -/
def Obligations.BusDisciplineKeptByEveryStep : Prop :=
  ∀ s t : State, s.Inv → s.BusInv → step s = .next t → t.BusInv

/-- What the bus discipline means for assertions (R62, V12 item 3): between any two assertions of chip-select in a trace that
keeps it there are a deassertion and, after it, a wait of at least `T_IDLE`. -/
def Obligations.DisciplineSeparatesAssertions : Prop :=
  ∀ (t : Transport) (tr : List TraceEntry), busRun t .gapped tr ≠ none →
    ∀ (i j : Nat) (ri rj : Reply), i < j → tr[i]? = some ⟨.setLine .cs .low, ri⟩ →
      tr[j]? = some ⟨.setLine .cs .low, rj⟩ →
      ∃ m n d r r', i < m ∧ m < n ∧ n < j ∧ tr[m]? = some ⟨.setLine .cs .high, r⟩ ∧ tr[n]? = some ⟨.wait d, r'⟩ ∧
        tIdle t ≤ d

/-- What the bus discipline means for bytes (R122, V12 item 2): every byte of a trace that keeps it comes after an
acknowledged assertion of chip-select with a settle wait between them, and chip-select is not driven in between. -/
def Obligations.DisciplineEnclosesBytes : Prop :=
  ∀ (t : Transport) (tr : List TraceEntry), busRun t .gapped tr ≠ none →
    ∀ (i : Nat) (b : Byte) (r : Reply), tr[i]? = some ⟨.xfer b, r⟩ →
      ∃ m n d r', m < n ∧ n < i ∧ tr[m]? = some ⟨.setLine .cs .low, .ok⟩ ∧ tr[n]? = some ⟨.wait d, r'⟩ ∧
        tSettle t ≤ d ∧ ∀ j level x, m < j → j < i → tr[j]? ≠ some ⟨.setLine .cs level, x⟩

/-! ### The panel image -/

/-- R38 in use (vector V7): in ACTIVE, with nothing undefined about the panel, LUM leaves `0x07` at `0x11` and the clamped
operand at `0x13`. `panelKnown` is the model's own record of R38's condition (log 7). -/
def Obligations.LumReachesThePanelImage : Prop :=
  ∀ (n b : Byte) (s : State), s.Reliable → s.busy = false → s.panelKnown = true → s.pstate = .active →
    ∃ t, exec (.lum n b) s = .next t ∧ t.preg.read 0x11 = some 0x07 ∧
      t.preg.read 0x13 = t.lum.map (BitVec.ofNat 8) ∧
      t.lum = some (max 5 (min 100 n.toNat))
end

