-- ==== Sys2Proof/Laws/State.lean ====
section
/-! SUPPORT. One lemma per field per update of `State`, each true by unfolding, so that no later proof unfolds a record
update. -/

namespace Sys2Proof.Machine

/-! ### `State.start` -/

@[simp] theorem State.start_params (s : State) : (s.start).params = s.params := rfl
@[simp] theorem State.start_op (s : State) : (s.start).op = s.op := rfl
@[simp] theorem State.start_argA (s : State) : (s.start).argA = s.argA := rfl
@[simp] theorem State.start_argB (s : State) : (s.start).argB = s.argB := rfl
@[simp] theorem State.start_lum (s : State) : (s.start).lum = s.lum := rfl
@[simp] theorem State.start_orbH (s : State) : (s.start).orbH = s.orbH := rfl
@[simp] theorem State.start_orbV (s : State) : (s.start).orbV = s.orbV := rfl
@[simp] theorem State.start_seq (s : State) : (s.start).seq = .running 0 := rfl
@[simp] theorem State.start_busy (s : State) : (s.start).busy = true := rfl
@[simp] theorem State.start_status (s : State) : (s.start).status = s.status := rfl
@[simp] theorem State.start_faultSeen (s : State) : (s.start).faultSeen = s.faultSeen := rfl
@[simp] theorem State.start_pstate (s : State) : (s.start).pstate = s.pstate := rfl
@[simp] theorem State.start_lines (s : State) : (s.start).lines = s.lines := rfl
@[simp] theorem State.start_trace (s : State) : (s.start).trace = s.trace := rfl
@[simp] theorem State.start_port (s : State) : (s.start).port = s.port := rfl
@[simp] theorem State.start_done (s : State) : (s.start).done = s.done := rfl
@[simp] theorem State.start_preg (s : State) : (s.start).preg = s.preg := rfl
@[simp] theorem State.start_panelKnown (s : State) : (s.start).panelKnown = s.panelKnown := rfl
@[simp] theorem State.start_answers (s : State) : (s.start).answers = s.answers := rfl
@[simp] theorem State.start_answerRest (s : State) : (s.start).answerRest = s.answerRest := rfl
@[simp] theorem State.start_host (s : State) : (s.start).host = s.host := rfl

/-! ### `State.moveTo` -/

@[simp] theorem State.moveTo_params (q : Seq) (s : State) : (s.moveTo q).params = s.params := rfl
@[simp] theorem State.moveTo_op (q : Seq) (s : State) : (s.moveTo q).op = s.op := rfl
@[simp] theorem State.moveTo_argA (q : Seq) (s : State) : (s.moveTo q).argA = s.argA := rfl
@[simp] theorem State.moveTo_argB (q : Seq) (s : State) : (s.moveTo q).argB = s.argB := rfl
@[simp] theorem State.moveTo_lum (q : Seq) (s : State) : (s.moveTo q).lum = s.lum := rfl
@[simp] theorem State.moveTo_orbH (q : Seq) (s : State) : (s.moveTo q).orbH = s.orbH := rfl
@[simp] theorem State.moveTo_orbV (q : Seq) (s : State) : (s.moveTo q).orbV = s.orbV := rfl
@[simp] theorem State.moveTo_seq (q : Seq) (s : State) : (s.moveTo q).seq = q := rfl
@[simp] theorem State.moveTo_busy (q : Seq) (s : State) : (s.moveTo q).busy = s.busy := rfl
@[simp] theorem State.moveTo_status (q : Seq) (s : State) : (s.moveTo q).status = s.status := rfl
@[simp] theorem State.moveTo_faultSeen (q : Seq) (s : State) : (s.moveTo q).faultSeen = s.faultSeen := rfl
@[simp] theorem State.moveTo_pstate (q : Seq) (s : State) : (s.moveTo q).pstate = s.pstate := rfl
@[simp] theorem State.moveTo_lines (q : Seq) (s : State) : (s.moveTo q).lines = s.lines := rfl
@[simp] theorem State.moveTo_trace (q : Seq) (s : State) : (s.moveTo q).trace = s.trace := rfl
@[simp] theorem State.moveTo_port (q : Seq) (s : State) : (s.moveTo q).port = s.port := rfl
@[simp] theorem State.moveTo_done (q : Seq) (s : State) : (s.moveTo q).done = s.done := rfl
@[simp] theorem State.moveTo_preg (q : Seq) (s : State) : (s.moveTo q).preg = s.preg := rfl
@[simp] theorem State.moveTo_panelKnown (q : Seq) (s : State) : (s.moveTo q).panelKnown = s.panelKnown := rfl
@[simp] theorem State.moveTo_answers (q : Seq) (s : State) : (s.moveTo q).answers = s.answers := rfl
@[simp] theorem State.moveTo_answerRest (q : Seq) (s : State) : (s.moveTo q).answerRest = s.answerRest := rfl
@[simp] theorem State.moveTo_host (q : Seq) (s : State) : (s.moveTo q).host = s.host := rfl

/-! ### `State.complete` -/

@[simp] theorem State.complete_params (r : Status) (s : State) : (s.complete r).params = s.params := rfl
@[simp] theorem State.complete_op (r : Status) (s : State) : (s.complete r).op = s.op := rfl
@[simp] theorem State.complete_argA (r : Status) (s : State) : (s.complete r).argA = s.argA := rfl
@[simp] theorem State.complete_argB (r : Status) (s : State) : (s.complete r).argB = s.argB := rfl
@[simp] theorem State.complete_lum (r : Status) (s : State) : (s.complete r).lum = s.lum := rfl
@[simp] theorem State.complete_orbH (r : Status) (s : State) : (s.complete r).orbH = s.orbH := rfl
@[simp] theorem State.complete_orbV (r : Status) (s : State) : (s.complete r).orbV = s.orbV := rfl
@[simp] theorem State.complete_seq (r : Status) (s : State) : (s.complete r).seq = .idle := rfl
@[simp] theorem State.complete_busy (r : Status) (s : State) : (s.complete r).busy = false := rfl
@[simp] theorem State.complete_status (r : Status) (s : State) : (s.complete r).status = r := rfl
@[simp] theorem State.complete_faultSeen (r : Status) (s : State) : (s.complete r).faultSeen = s.faultSeen := rfl
@[simp] theorem State.complete_pstate (r : Status) (s : State) : (s.complete r).pstate = s.pstate := rfl
@[simp] theorem State.complete_lines (r : Status) (s : State) : (s.complete r).lines = s.lines := rfl
@[simp] theorem State.complete_trace (r : Status) (s : State) : (s.complete r).trace = s.trace := rfl
@[simp] theorem State.complete_port (r : Status) (s : State) : (s.complete r).port = s.port := rfl
@[simp] theorem State.complete_done (r : Status) (s : State) : (s.complete r).done = true := rfl
@[simp] theorem State.complete_preg (r : Status) (s : State) : (s.complete r).preg = s.preg := rfl
@[simp] theorem State.complete_panelKnown (r : Status) (s : State) : (s.complete r).panelKnown = s.panelKnown := rfl
@[simp] theorem State.complete_answers (r : Status) (s : State) : (s.complete r).answers = s.answers := rfl
@[simp] theorem State.complete_answerRest (r : Status) (s : State) : (s.complete r).answerRest = s.answerRest := rfl
@[simp] theorem State.complete_host (r : Status) (s : State) : (s.complete r).host = s.host := rfl

/-! ### `State.completeIllegal` -/

@[simp] theorem State.completeIllegal_params (s : State) : (s.completeIllegal).params = s.params := rfl
@[simp] theorem State.completeIllegal_op (s : State) : (s.completeIllegal).op = s.op := rfl
@[simp] theorem State.completeIllegal_argA (s : State) : (s.completeIllegal).argA = s.argA := rfl
@[simp] theorem State.completeIllegal_argB (s : State) : (s.completeIllegal).argB = s.argB := rfl
@[simp] theorem State.completeIllegal_lum (s : State) : (s.completeIllegal).lum = s.lum := rfl
@[simp] theorem State.completeIllegal_orbH (s : State) : (s.completeIllegal).orbH = s.orbH := rfl
@[simp] theorem State.completeIllegal_orbV (s : State) : (s.completeIllegal).orbV = s.orbV := rfl
@[simp] theorem State.completeIllegal_seq (s : State) : (s.completeIllegal).seq = .idle := rfl
@[simp] theorem State.completeIllegal_busy (s : State) : (s.completeIllegal).busy = false := rfl
@[simp] theorem State.completeIllegal_status (s : State) : (s.completeIllegal).status = .illegal := rfl
@[simp] theorem State.completeIllegal_faultSeen (s : State) : (s.completeIllegal).faultSeen = s.faultSeen := rfl
@[simp] theorem State.completeIllegal_pstate (s : State) : (s.completeIllegal).pstate = s.pstate := rfl
@[simp] theorem State.completeIllegal_lines (s : State) : (s.completeIllegal).lines = s.lines := rfl
@[simp] theorem State.completeIllegal_trace (s : State) : (s.completeIllegal).trace = s.trace := rfl
@[simp] theorem State.completeIllegal_port (s : State) : (s.completeIllegal).port = s.port := rfl
@[simp] theorem State.completeIllegal_done (s : State) : (s.completeIllegal).done = true := rfl
@[simp] theorem State.completeIllegal_preg (s : State) : (s.completeIllegal).preg = s.preg := rfl
@[simp] theorem State.completeIllegal_panelKnown (s : State) : (s.completeIllegal).panelKnown = s.panelKnown := rfl
@[simp] theorem State.completeIllegal_answers (s : State) : (s.completeIllegal).answers = s.answers := rfl
@[simp] theorem State.completeIllegal_answerRest (s : State) : (s.completeIllegal).answerRest = s.answerRest := rfl
@[simp] theorem State.completeIllegal_host (s : State) : (s.completeIllegal).host = s.host := rfl

/-! ### `State.completeFault` -/

@[simp] theorem State.completeFault_params (s : State) : (s.completeFault).params = s.params := rfl
@[simp] theorem State.completeFault_op (s : State) : (s.completeFault).op = s.op := rfl
@[simp] theorem State.completeFault_argA (s : State) : (s.completeFault).argA = s.argA := rfl
@[simp] theorem State.completeFault_argB (s : State) : (s.completeFault).argB = s.argB := rfl
@[simp] theorem State.completeFault_lum (s : State) : (s.completeFault).lum = s.lum := rfl
@[simp] theorem State.completeFault_orbH (s : State) : (s.completeFault).orbH = s.orbH := rfl
@[simp] theorem State.completeFault_orbV (s : State) : (s.completeFault).orbV = s.orbV := rfl
@[simp] theorem State.completeFault_seq (s : State) : (s.completeFault).seq = .idle := rfl
@[simp] theorem State.completeFault_busy (s : State) : (s.completeFault).busy = false := rfl
@[simp] theorem State.completeFault_status (s : State) : (s.completeFault).status = .fault := rfl
@[simp] theorem State.completeFault_faultSeen (s : State) : (s.completeFault).faultSeen = true := rfl
@[simp] theorem State.completeFault_pstate (s : State) : (s.completeFault).pstate = s.pstate := rfl
@[simp] theorem State.completeFault_lines (s : State) : (s.completeFault).lines = s.lines := rfl
@[simp] theorem State.completeFault_trace (s : State) : (s.completeFault).trace = s.trace := rfl
@[simp] theorem State.completeFault_port (s : State) : (s.completeFault).port = s.port := rfl
@[simp] theorem State.completeFault_done (s : State) : (s.completeFault).done = true := rfl
@[simp] theorem State.completeFault_preg (s : State) : (s.completeFault).preg = s.preg := rfl
@[simp] theorem State.completeFault_panelKnown (s : State) : (s.completeFault).panelKnown = s.panelKnown := rfl
@[simp] theorem State.completeFault_answers (s : State) : (s.completeFault).answers = s.answers := rfl
@[simp] theorem State.completeFault_answerRest (s : State) : (s.completeFault).answerRest = s.answerRest := rfl
@[simp] theorem State.completeFault_host (s : State) : (s.completeFault).host = s.host := rfl

/-! ### `State.popAnswer` -/

@[simp] theorem State.popAnswer_params (s : State) : (s.popAnswer).params = s.params := rfl
@[simp] theorem State.popAnswer_op (s : State) : (s.popAnswer).op = s.op := rfl
@[simp] theorem State.popAnswer_argA (s : State) : (s.popAnswer).argA = s.argA := rfl
@[simp] theorem State.popAnswer_argB (s : State) : (s.popAnswer).argB = s.argB := rfl
@[simp] theorem State.popAnswer_lum (s : State) : (s.popAnswer).lum = s.lum := rfl
@[simp] theorem State.popAnswer_orbH (s : State) : (s.popAnswer).orbH = s.orbH := rfl
@[simp] theorem State.popAnswer_orbV (s : State) : (s.popAnswer).orbV = s.orbV := rfl
@[simp] theorem State.popAnswer_seq (s : State) : (s.popAnswer).seq = s.seq := rfl
@[simp] theorem State.popAnswer_busy (s : State) : (s.popAnswer).busy = s.busy := rfl
@[simp] theorem State.popAnswer_status (s : State) : (s.popAnswer).status = s.status := rfl
@[simp] theorem State.popAnswer_faultSeen (s : State) : (s.popAnswer).faultSeen = s.faultSeen := rfl
@[simp] theorem State.popAnswer_pstate (s : State) : (s.popAnswer).pstate = s.pstate := rfl
@[simp] theorem State.popAnswer_lines (s : State) : (s.popAnswer).lines = s.lines := rfl
@[simp] theorem State.popAnswer_trace (s : State) : (s.popAnswer).trace = s.trace := rfl
@[simp] theorem State.popAnswer_port (s : State) : (s.popAnswer).port = s.port := rfl
@[simp] theorem State.popAnswer_done (s : State) : (s.popAnswer).done = s.done := rfl
@[simp] theorem State.popAnswer_preg (s : State) : (s.popAnswer).preg = s.preg := rfl
@[simp] theorem State.popAnswer_panelKnown (s : State) : (s.popAnswer).panelKnown = s.panelKnown := rfl
@[simp] theorem State.popAnswer_answers (s : State) : (s.popAnswer).answers = s.answers.tail := rfl
@[simp] theorem State.popAnswer_answerRest (s : State) : (s.popAnswer).answerRest = s.answerRest := rfl
@[simp] theorem State.popAnswer_host (s : State) : (s.popAnswer).host = s.host := rfl

/-! ### `State.afterAnswers` -/

@[simp] theorem State.afterAnswers_params (n : Nat) (s : State) : (s.afterAnswers n).params = s.params := rfl
@[simp] theorem State.afterAnswers_op (n : Nat) (s : State) : (s.afterAnswers n).op = s.op := rfl
@[simp] theorem State.afterAnswers_argA (n : Nat) (s : State) : (s.afterAnswers n).argA = s.argA := rfl
@[simp] theorem State.afterAnswers_argB (n : Nat) (s : State) : (s.afterAnswers n).argB = s.argB := rfl
@[simp] theorem State.afterAnswers_lum (n : Nat) (s : State) : (s.afterAnswers n).lum = s.lum := rfl
@[simp] theorem State.afterAnswers_orbH (n : Nat) (s : State) : (s.afterAnswers n).orbH = s.orbH := rfl
@[simp] theorem State.afterAnswers_orbV (n : Nat) (s : State) : (s.afterAnswers n).orbV = s.orbV := rfl
@[simp] theorem State.afterAnswers_seq (n : Nat) (s : State) : (s.afterAnswers n).seq = s.seq := rfl
@[simp] theorem State.afterAnswers_busy (n : Nat) (s : State) : (s.afterAnswers n).busy = s.busy := rfl
@[simp] theorem State.afterAnswers_status (n : Nat) (s : State) : (s.afterAnswers n).status = s.status := rfl
@[simp] theorem State.afterAnswers_faultSeen (n : Nat) (s : State) : (s.afterAnswers n).faultSeen = s.faultSeen := rfl
@[simp] theorem State.afterAnswers_pstate (n : Nat) (s : State) : (s.afterAnswers n).pstate = s.pstate := rfl
@[simp] theorem State.afterAnswers_lines (n : Nat) (s : State) : (s.afterAnswers n).lines = s.lines := rfl
@[simp] theorem State.afterAnswers_trace (n : Nat) (s : State) : (s.afterAnswers n).trace = s.trace := rfl
@[simp] theorem State.afterAnswers_port (n : Nat) (s : State) : (s.afterAnswers n).port = s.port := rfl
@[simp] theorem State.afterAnswers_done (n : Nat) (s : State) : (s.afterAnswers n).done = s.done := rfl
@[simp] theorem State.afterAnswers_preg (n : Nat) (s : State) : (s.afterAnswers n).preg = s.preg := rfl
@[simp] theorem State.afterAnswers_panelKnown (n : Nat) (s : State) : (s.afterAnswers n).panelKnown = s.panelKnown := rfl
@[simp] theorem State.afterAnswers_answers (n : Nat) (s : State) : (s.afterAnswers n).answers = s.answers.drop n := rfl
@[simp] theorem State.afterAnswers_answerRest (n : Nat) (s : State) : (s.afterAnswers n).answerRest = s.answerRest := rfl
@[simp] theorem State.afterAnswers_host (n : Nat) (s : State) : (s.afterAnswers n).host = s.host := rfl

/-! ### `State.offer` -/

@[simp] theorem State.offer_params (e : Event) (s : State) : (s.offer e).params = s.params := rfl
@[simp] theorem State.offer_op (e : Event) (s : State) : (s.offer e).op = s.op := rfl
@[simp] theorem State.offer_argA (e : Event) (s : State) : (s.offer e).argA = s.argA := rfl
@[simp] theorem State.offer_argB (e : Event) (s : State) : (s.offer e).argB = s.argB := rfl
@[simp] theorem State.offer_lum (e : Event) (s : State) : (s.offer e).lum = s.lum := rfl
@[simp] theorem State.offer_orbH (e : Event) (s : State) : (s.offer e).orbH = s.orbH := rfl
@[simp] theorem State.offer_orbV (e : Event) (s : State) : (s.offer e).orbV = s.orbV := rfl
@[simp] theorem State.offer_seq (e : Event) (s : State) : (s.offer e).seq = s.seq := rfl
@[simp] theorem State.offer_busy (e : Event) (s : State) : (s.offer e).busy = s.busy := rfl
@[simp] theorem State.offer_status (e : Event) (s : State) : (s.offer e).status = s.status := rfl
@[simp] theorem State.offer_faultSeen (e : Event) (s : State) : (s.offer e).faultSeen = s.faultSeen := rfl
@[simp] theorem State.offer_pstate (e : Event) (s : State) : (s.offer e).pstate = s.pstate := rfl
@[simp] theorem State.offer_lines (e : Event) (s : State) : (s.offer e).lines = s.lines := rfl
@[simp] theorem State.offer_trace (e : Event) (s : State) : (s.offer e).trace = s.trace := rfl
@[simp] theorem State.offer_port (e : Event) (s : State) : (s.offer e).port = some e := rfl
@[simp] theorem State.offer_done (e : Event) (s : State) : (s.offer e).done = s.done := rfl
@[simp] theorem State.offer_preg (e : Event) (s : State) : (s.offer e).preg = s.preg := rfl
@[simp] theorem State.offer_panelKnown (e : Event) (s : State) : (s.offer e).panelKnown = s.panelKnown := rfl
@[simp] theorem State.offer_answers (e : Event) (s : State) : (s.offer e).answers = s.answers.tail := rfl
@[simp] theorem State.offer_answerRest (e : Event) (s : State) : (s.offer e).answerRest = s.answerRest := rfl
@[simp] theorem State.offer_host (e : Event) (s : State) : (s.offer e).host = s.host := rfl

/-! ### `State.acknowledge` -/

@[simp] theorem State.acknowledge_params (e : Event) (r : Reply) (s : State) : (s.acknowledge e r).params = s.params := rfl
@[simp] theorem State.acknowledge_op (e : Event) (r : Reply) (s : State) : (s.acknowledge e r).op = s.op := rfl
@[simp] theorem State.acknowledge_argA (e : Event) (r : Reply) (s : State) : (s.acknowledge e r).argA = s.argA := rfl
@[simp] theorem State.acknowledge_argB (e : Event) (r : Reply) (s : State) : (s.acknowledge e r).argB = s.argB := rfl
@[simp] theorem State.acknowledge_lum (e : Event) (r : Reply) (s : State) : (s.acknowledge e r).lum = s.lum := rfl
@[simp] theorem State.acknowledge_orbH (e : Event) (r : Reply) (s : State) : (s.acknowledge e r).orbH = s.orbH := rfl
@[simp] theorem State.acknowledge_orbV (e : Event) (r : Reply) (s : State) : (s.acknowledge e r).orbV = s.orbV := rfl
@[simp] theorem State.acknowledge_seq (e : Event) (r : Reply) (s : State) : (s.acknowledge e r).seq = s.seq := rfl
@[simp] theorem State.acknowledge_busy (e : Event) (r : Reply) (s : State) : (s.acknowledge e r).busy = s.busy := rfl
@[simp] theorem State.acknowledge_status (e : Event) (r : Reply) (s : State) : (s.acknowledge e r).status = s.status := rfl
@[simp] theorem State.acknowledge_faultSeen (e : Event) (r : Reply) (s : State) : (s.acknowledge e r).faultSeen = s.faultSeen := rfl
@[simp] theorem State.acknowledge_pstate (e : Event) (r : Reply) (s : State) : (s.acknowledge e r).pstate = s.pstate := rfl
@[simp] theorem State.acknowledge_lines (e : Event) (r : Reply) (s : State) : (s.acknowledge e r).lines = s.lines.afterEvent e r := rfl
@[simp] theorem State.acknowledge_trace (e : Event) (r : Reply) (s : State) : (s.acknowledge e r).trace = s.trace ++ [⟨e, r⟩] := rfl
@[simp] theorem State.acknowledge_port (e : Event) (r : Reply) (s : State) : (s.acknowledge e r).port = none := rfl
@[simp] theorem State.acknowledge_done (e : Event) (r : Reply) (s : State) : (s.acknowledge e r).done = s.done := rfl
@[simp] theorem State.acknowledge_preg (e : Event) (r : Reply) (s : State) : (s.acknowledge e r).preg = s.preg := rfl
@[simp] theorem State.acknowledge_panelKnown (e : Event) (r : Reply) (s : State) : (s.acknowledge e r).panelKnown = s.panelKnown := rfl
@[simp] theorem State.acknowledge_answers (e : Event) (r : Reply) (s : State) : (s.acknowledge e r).answers = s.answers.tail := rfl
@[simp] theorem State.acknowledge_answerRest (e : Event) (r : Reply) (s : State) : (s.acknowledge e r).answerRest = s.answerRest := rfl
@[simp] theorem State.acknowledge_host (e : Event) (r : Reply) (s : State) : (s.acknowledge e r).host = s.host := rfl

/-! ### `State.lumSent` -/

@[simp] theorem State.lumSent_params (c : Nat) (s : State) : (s.lumSent c).params = s.params := rfl
@[simp] theorem State.lumSent_op (c : Nat) (s : State) : (s.lumSent c).op = s.op := rfl
@[simp] theorem State.lumSent_argA (c : Nat) (s : State) : (s.lumSent c).argA = s.argA := rfl
@[simp] theorem State.lumSent_argB (c : Nat) (s : State) : (s.lumSent c).argB = s.argB := rfl
@[simp] theorem State.lumSent_lum (c : Nat) (s : State) : (s.lumSent c).lum = if s.pstate = .active then some c else none := rfl
@[simp] theorem State.lumSent_orbH (c : Nat) (s : State) : (s.lumSent c).orbH = s.orbH := rfl
@[simp] theorem State.lumSent_orbV (c : Nat) (s : State) : (s.lumSent c).orbV = s.orbV := rfl
@[simp] theorem State.lumSent_seq (c : Nat) (s : State) : (s.lumSent c).seq = s.seq := rfl
@[simp] theorem State.lumSent_busy (c : Nat) (s : State) : (s.lumSent c).busy = s.busy := rfl
@[simp] theorem State.lumSent_status (c : Nat) (s : State) : (s.lumSent c).status = s.status := rfl
@[simp] theorem State.lumSent_faultSeen (c : Nat) (s : State) : (s.lumSent c).faultSeen = s.faultSeen := rfl
@[simp] theorem State.lumSent_pstate (c : Nat) (s : State) : (s.lumSent c).pstate = s.pstate := rfl
@[simp] theorem State.lumSent_lines (c : Nat) (s : State) : (s.lumSent c).lines = s.lines := rfl
@[simp] theorem State.lumSent_trace (c : Nat) (s : State) : (s.lumSent c).trace = s.trace := rfl
@[simp] theorem State.lumSent_port (c : Nat) (s : State) : (s.lumSent c).port = s.port := rfl
@[simp] theorem State.lumSent_done (c : Nat) (s : State) : (s.lumSent c).done = s.done := rfl
@[simp] theorem State.lumSent_preg (c : Nat) (s : State) : (s.lumSent c).preg = s.preg := rfl
@[simp] theorem State.lumSent_panelKnown (c : Nat) (s : State) : (s.lumSent c).panelKnown = s.panelKnown := rfl
@[simp] theorem State.lumSent_answers (c : Nat) (s : State) : (s.lumSent c).answers = s.answers := rfl
@[simp] theorem State.lumSent_answerRest (c : Nat) (s : State) : (s.lumSent c).answerRest = s.answerRest := rfl
@[simp] theorem State.lumSent_host (c : Nat) (s : State) : (s.lumSent c).host = s.host := rfl

/-! ### `State.lumCut` -/

@[simp] theorem State.lumCut_params (s : State) : (s.lumCut).params = s.params := rfl
@[simp] theorem State.lumCut_op (s : State) : (s.lumCut).op = s.op := rfl
@[simp] theorem State.lumCut_argA (s : State) : (s.lumCut).argA = s.argA := rfl
@[simp] theorem State.lumCut_argB (s : State) : (s.lumCut).argB = s.argB := rfl
@[simp] theorem State.lumCut_lum (s : State) : (s.lumCut).lum = none := rfl
@[simp] theorem State.lumCut_orbH (s : State) : (s.lumCut).orbH = s.orbH := rfl
@[simp] theorem State.lumCut_orbV (s : State) : (s.lumCut).orbV = s.orbV := rfl
@[simp] theorem State.lumCut_seq (s : State) : (s.lumCut).seq = s.seq := rfl
@[simp] theorem State.lumCut_busy (s : State) : (s.lumCut).busy = s.busy := rfl
@[simp] theorem State.lumCut_status (s : State) : (s.lumCut).status = s.status := rfl
@[simp] theorem State.lumCut_faultSeen (s : State) : (s.lumCut).faultSeen = s.faultSeen := rfl
@[simp] theorem State.lumCut_pstate (s : State) : (s.lumCut).pstate = s.pstate := rfl
@[simp] theorem State.lumCut_lines (s : State) : (s.lumCut).lines = s.lines := rfl
@[simp] theorem State.lumCut_trace (s : State) : (s.lumCut).trace = s.trace := rfl
@[simp] theorem State.lumCut_port (s : State) : (s.lumCut).port = s.port := rfl
@[simp] theorem State.lumCut_done (s : State) : (s.lumCut).done = s.done := rfl
@[simp] theorem State.lumCut_preg (s : State) : (s.lumCut).preg = s.preg := rfl
@[simp] theorem State.lumCut_panelKnown (s : State) : (s.lumCut).panelKnown = s.panelKnown := rfl
@[simp] theorem State.lumCut_answers (s : State) : (s.lumCut).answers = s.answers := rfl
@[simp] theorem State.lumCut_answerRest (s : State) : (s.lumCut).answerRest = s.answerRest := rfl
@[simp] theorem State.lumCut_host (s : State) : (s.lumCut).host = s.host := rfl

/-! ### `State.orbHSent` -/

@[simp] theorem State.orbHSent_params (c : Int) (s : State) : (s.orbHSent c).params = s.params := rfl
@[simp] theorem State.orbHSent_op (c : Int) (s : State) : (s.orbHSent c).op = s.op := rfl
@[simp] theorem State.orbHSent_argA (c : Int) (s : State) : (s.orbHSent c).argA = s.argA := rfl
@[simp] theorem State.orbHSent_argB (c : Int) (s : State) : (s.orbHSent c).argB = s.argB := rfl
@[simp] theorem State.orbHSent_lum (c : Int) (s : State) : (s.orbHSent c).lum = s.lum := rfl
@[simp] theorem State.orbHSent_orbH (c : Int) (s : State) : (s.orbHSent c).orbH = if s.pstate = .active then some c else none := rfl
@[simp] theorem State.orbHSent_orbV (c : Int) (s : State) : (s.orbHSent c).orbV = s.orbV := rfl
@[simp] theorem State.orbHSent_seq (c : Int) (s : State) : (s.orbHSent c).seq = s.seq := rfl
@[simp] theorem State.orbHSent_busy (c : Int) (s : State) : (s.orbHSent c).busy = s.busy := rfl
@[simp] theorem State.orbHSent_status (c : Int) (s : State) : (s.orbHSent c).status = s.status := rfl
@[simp] theorem State.orbHSent_faultSeen (c : Int) (s : State) : (s.orbHSent c).faultSeen = s.faultSeen := rfl
@[simp] theorem State.orbHSent_pstate (c : Int) (s : State) : (s.orbHSent c).pstate = s.pstate := rfl
@[simp] theorem State.orbHSent_lines (c : Int) (s : State) : (s.orbHSent c).lines = s.lines := rfl
@[simp] theorem State.orbHSent_trace (c : Int) (s : State) : (s.orbHSent c).trace = s.trace := rfl
@[simp] theorem State.orbHSent_port (c : Int) (s : State) : (s.orbHSent c).port = s.port := rfl
@[simp] theorem State.orbHSent_done (c : Int) (s : State) : (s.orbHSent c).done = s.done := rfl
@[simp] theorem State.orbHSent_preg (c : Int) (s : State) : (s.orbHSent c).preg = s.preg := rfl
@[simp] theorem State.orbHSent_panelKnown (c : Int) (s : State) : (s.orbHSent c).panelKnown = s.panelKnown := rfl
@[simp] theorem State.orbHSent_answers (c : Int) (s : State) : (s.orbHSent c).answers = s.answers := rfl
@[simp] theorem State.orbHSent_answerRest (c : Int) (s : State) : (s.orbHSent c).answerRest = s.answerRest := rfl
@[simp] theorem State.orbHSent_host (c : Int) (s : State) : (s.orbHSent c).host = s.host := rfl

/-! ### `State.orbHCut` -/

@[simp] theorem State.orbHCut_params (s : State) : (s.orbHCut).params = s.params := rfl
@[simp] theorem State.orbHCut_op (s : State) : (s.orbHCut).op = s.op := rfl
@[simp] theorem State.orbHCut_argA (s : State) : (s.orbHCut).argA = s.argA := rfl
@[simp] theorem State.orbHCut_argB (s : State) : (s.orbHCut).argB = s.argB := rfl
@[simp] theorem State.orbHCut_lum (s : State) : (s.orbHCut).lum = s.lum := rfl
@[simp] theorem State.orbHCut_orbH (s : State) : (s.orbHCut).orbH = none := rfl
@[simp] theorem State.orbHCut_orbV (s : State) : (s.orbHCut).orbV = s.orbV := rfl
@[simp] theorem State.orbHCut_seq (s : State) : (s.orbHCut).seq = s.seq := rfl
@[simp] theorem State.orbHCut_busy (s : State) : (s.orbHCut).busy = s.busy := rfl
@[simp] theorem State.orbHCut_status (s : State) : (s.orbHCut).status = s.status := rfl
@[simp] theorem State.orbHCut_faultSeen (s : State) : (s.orbHCut).faultSeen = s.faultSeen := rfl
@[simp] theorem State.orbHCut_pstate (s : State) : (s.orbHCut).pstate = s.pstate := rfl
@[simp] theorem State.orbHCut_lines (s : State) : (s.orbHCut).lines = s.lines := rfl
@[simp] theorem State.orbHCut_trace (s : State) : (s.orbHCut).trace = s.trace := rfl
@[simp] theorem State.orbHCut_port (s : State) : (s.orbHCut).port = s.port := rfl
@[simp] theorem State.orbHCut_done (s : State) : (s.orbHCut).done = s.done := rfl
@[simp] theorem State.orbHCut_preg (s : State) : (s.orbHCut).preg = s.preg := rfl
@[simp] theorem State.orbHCut_panelKnown (s : State) : (s.orbHCut).panelKnown = s.panelKnown := rfl
@[simp] theorem State.orbHCut_answers (s : State) : (s.orbHCut).answers = s.answers := rfl
@[simp] theorem State.orbHCut_answerRest (s : State) : (s.orbHCut).answerRest = s.answerRest := rfl
@[simp] theorem State.orbHCut_host (s : State) : (s.orbHCut).host = s.host := rfl

/-! ### `State.orbVSent` -/

@[simp] theorem State.orbVSent_params (c : Int) (s : State) : (s.orbVSent c).params = s.params := rfl
@[simp] theorem State.orbVSent_op (c : Int) (s : State) : (s.orbVSent c).op = s.op := rfl
@[simp] theorem State.orbVSent_argA (c : Int) (s : State) : (s.orbVSent c).argA = s.argA := rfl
@[simp] theorem State.orbVSent_argB (c : Int) (s : State) : (s.orbVSent c).argB = s.argB := rfl
@[simp] theorem State.orbVSent_lum (c : Int) (s : State) : (s.orbVSent c).lum = s.lum := rfl
@[simp] theorem State.orbVSent_orbH (c : Int) (s : State) : (s.orbVSent c).orbH = s.orbH := rfl
@[simp] theorem State.orbVSent_orbV (c : Int) (s : State) : (s.orbVSent c).orbV = if s.pstate = .active then some c else none := rfl
@[simp] theorem State.orbVSent_seq (c : Int) (s : State) : (s.orbVSent c).seq = s.seq := rfl
@[simp] theorem State.orbVSent_busy (c : Int) (s : State) : (s.orbVSent c).busy = s.busy := rfl
@[simp] theorem State.orbVSent_status (c : Int) (s : State) : (s.orbVSent c).status = s.status := rfl
@[simp] theorem State.orbVSent_faultSeen (c : Int) (s : State) : (s.orbVSent c).faultSeen = s.faultSeen := rfl
@[simp] theorem State.orbVSent_pstate (c : Int) (s : State) : (s.orbVSent c).pstate = s.pstate := rfl
@[simp] theorem State.orbVSent_lines (c : Int) (s : State) : (s.orbVSent c).lines = s.lines := rfl
@[simp] theorem State.orbVSent_trace (c : Int) (s : State) : (s.orbVSent c).trace = s.trace := rfl
@[simp] theorem State.orbVSent_port (c : Int) (s : State) : (s.orbVSent c).port = s.port := rfl
@[simp] theorem State.orbVSent_done (c : Int) (s : State) : (s.orbVSent c).done = s.done := rfl
@[simp] theorem State.orbVSent_preg (c : Int) (s : State) : (s.orbVSent c).preg = s.preg := rfl
@[simp] theorem State.orbVSent_panelKnown (c : Int) (s : State) : (s.orbVSent c).panelKnown = s.panelKnown := rfl
@[simp] theorem State.orbVSent_answers (c : Int) (s : State) : (s.orbVSent c).answers = s.answers := rfl
@[simp] theorem State.orbVSent_answerRest (c : Int) (s : State) : (s.orbVSent c).answerRest = s.answerRest := rfl
@[simp] theorem State.orbVSent_host (c : Int) (s : State) : (s.orbVSent c).host = s.host := rfl

/-! ### `State.orbVCut` -/

@[simp] theorem State.orbVCut_params (s : State) : (s.orbVCut).params = s.params := rfl
@[simp] theorem State.orbVCut_op (s : State) : (s.orbVCut).op = s.op := rfl
@[simp] theorem State.orbVCut_argA (s : State) : (s.orbVCut).argA = s.argA := rfl
@[simp] theorem State.orbVCut_argB (s : State) : (s.orbVCut).argB = s.argB := rfl
@[simp] theorem State.orbVCut_lum (s : State) : (s.orbVCut).lum = s.lum := rfl
@[simp] theorem State.orbVCut_orbH (s : State) : (s.orbVCut).orbH = s.orbH := rfl
@[simp] theorem State.orbVCut_orbV (s : State) : (s.orbVCut).orbV = none := rfl
@[simp] theorem State.orbVCut_seq (s : State) : (s.orbVCut).seq = s.seq := rfl
@[simp] theorem State.orbVCut_busy (s : State) : (s.orbVCut).busy = s.busy := rfl
@[simp] theorem State.orbVCut_status (s : State) : (s.orbVCut).status = s.status := rfl
@[simp] theorem State.orbVCut_faultSeen (s : State) : (s.orbVCut).faultSeen = s.faultSeen := rfl
@[simp] theorem State.orbVCut_pstate (s : State) : (s.orbVCut).pstate = s.pstate := rfl
@[simp] theorem State.orbVCut_lines (s : State) : (s.orbVCut).lines = s.lines := rfl
@[simp] theorem State.orbVCut_trace (s : State) : (s.orbVCut).trace = s.trace := rfl
@[simp] theorem State.orbVCut_port (s : State) : (s.orbVCut).port = s.port := rfl
@[simp] theorem State.orbVCut_done (s : State) : (s.orbVCut).done = s.done := rfl
@[simp] theorem State.orbVCut_preg (s : State) : (s.orbVCut).preg = s.preg := rfl
@[simp] theorem State.orbVCut_panelKnown (s : State) : (s.orbVCut).panelKnown = s.panelKnown := rfl
@[simp] theorem State.orbVCut_answers (s : State) : (s.orbVCut).answers = s.answers := rfl
@[simp] theorem State.orbVCut_answerRest (s : State) : (s.orbVCut).answerRest = s.answerRest := rfl
@[simp] theorem State.orbVCut_host (s : State) : (s.orbVCut).host = s.host := rfl

/-! ### `State.panelSent` -/

@[simp] theorem State.panelSent_params (w : Word16) (s : State) : (s.panelSent w).params = s.params := rfl
@[simp] theorem State.panelSent_op (w : Word16) (s : State) : (s.panelSent w).op = s.op := rfl
@[simp] theorem State.panelSent_argA (w : Word16) (s : State) : (s.panelSent w).argA = s.argA := rfl
@[simp] theorem State.panelSent_argB (w : Word16) (s : State) : (s.panelSent w).argB = s.argB := rfl
@[simp] theorem State.panelSent_lum (w : Word16) (s : State) : (s.panelSent w).lum = s.lum := rfl
@[simp] theorem State.panelSent_orbH (w : Word16) (s : State) : (s.panelSent w).orbH = s.orbH := rfl
@[simp] theorem State.panelSent_orbV (w : Word16) (s : State) : (s.panelSent w).orbV = s.orbV := rfl
@[simp] theorem State.panelSent_seq (w : Word16) (s : State) : (s.panelSent w).seq = s.seq := rfl
@[simp] theorem State.panelSent_busy (w : Word16) (s : State) : (s.panelSent w).busy = s.busy := rfl
@[simp] theorem State.panelSent_status (w : Word16) (s : State) : (s.panelSent w).status = s.status := rfl
@[simp] theorem State.panelSent_faultSeen (w : Word16) (s : State) : (s.panelSent w).faultSeen = s.faultSeen := rfl
@[simp] theorem State.panelSent_pstate (w : Word16) (s : State) : (s.panelSent w).pstate = s.pstate := rfl
@[simp] theorem State.panelSent_lines (w : Word16) (s : State) : (s.panelSent w).lines = s.lines := rfl
@[simp] theorem State.panelSent_trace (w : Word16) (s : State) : (s.panelSent w).trace = s.trace := rfl
@[simp] theorem State.panelSent_port (w : Word16) (s : State) : (s.panelSent w).port = s.port := rfl
@[simp] theorem State.panelSent_done (w : Word16) (s : State) : (s.panelSent w).done = s.done := rfl
@[simp] theorem State.panelSent_preg (w : Word16) (s : State) : (s.panelSent w).preg = s.preg.set (addrByte w) (s.sentValue w) := rfl
@[simp] theorem State.panelSent_panelKnown (w : Word16) (s : State) : (s.panelSent w).panelKnown = s.panelKnown := rfl
@[simp] theorem State.panelSent_answers (w : Word16) (s : State) : (s.panelSent w).answers = s.answers := rfl
@[simp] theorem State.panelSent_answerRest (w : Word16) (s : State) : (s.panelSent w).answerRest = s.answerRest := rfl
@[simp] theorem State.panelSent_host (w : Word16) (s : State) : (s.panelSent w).host = s.host := rfl

/-! ### `State.panelCut` -/

@[simp] theorem State.panelCut_params (w : Word16) (s : State) : (s.panelCut w).params = s.params := rfl
@[simp] theorem State.panelCut_op (w : Word16) (s : State) : (s.panelCut w).op = s.op := rfl
@[simp] theorem State.panelCut_argA (w : Word16) (s : State) : (s.panelCut w).argA = s.argA := rfl
@[simp] theorem State.panelCut_argB (w : Word16) (s : State) : (s.panelCut w).argB = s.argB := rfl
@[simp] theorem State.panelCut_lum (w : Word16) (s : State) : (s.panelCut w).lum = s.lum := rfl
@[simp] theorem State.panelCut_orbH (w : Word16) (s : State) : (s.panelCut w).orbH = s.orbH := rfl
@[simp] theorem State.panelCut_orbV (w : Word16) (s : State) : (s.panelCut w).orbV = s.orbV := rfl
@[simp] theorem State.panelCut_seq (w : Word16) (s : State) : (s.panelCut w).seq = s.seq := rfl
@[simp] theorem State.panelCut_busy (w : Word16) (s : State) : (s.panelCut w).busy = s.busy := rfl
@[simp] theorem State.panelCut_status (w : Word16) (s : State) : (s.panelCut w).status = s.status := rfl
@[simp] theorem State.panelCut_faultSeen (w : Word16) (s : State) : (s.panelCut w).faultSeen = s.faultSeen := rfl
@[simp] theorem State.panelCut_pstate (w : Word16) (s : State) : (s.panelCut w).pstate = s.pstate := rfl
@[simp] theorem State.panelCut_lines (w : Word16) (s : State) : (s.panelCut w).lines = s.lines := rfl
@[simp] theorem State.panelCut_trace (w : Word16) (s : State) : (s.panelCut w).trace = s.trace := rfl
@[simp] theorem State.panelCut_port (w : Word16) (s : State) : (s.panelCut w).port = s.port := rfl
@[simp] theorem State.panelCut_done (w : Word16) (s : State) : (s.panelCut w).done = s.done := rfl
@[simp] theorem State.panelCut_preg (w : Word16) (s : State) : (s.panelCut w).preg = s.preg.erase (addrByte w) := rfl
@[simp] theorem State.panelCut_panelKnown (w : Word16) (s : State) : (s.panelCut w).panelKnown = s.panelKnown := rfl
@[simp] theorem State.panelCut_answers (w : Word16) (s : State) : (s.panelCut w).answers = s.answers := rfl
@[simp] theorem State.panelCut_answerRest (w : Word16) (s : State) : (s.panelCut w).answerRest = s.answerRest := rfl
@[simp] theorem State.panelCut_host (w : Word16) (s : State) : (s.panelCut w).host = s.host := rfl

/-! ### `State.panelLost` -/

@[simp] theorem State.panelLost_params (s : State) : (s.panelLost).params = s.params := rfl
@[simp] theorem State.panelLost_op (s : State) : (s.panelLost).op = s.op := rfl
@[simp] theorem State.panelLost_argA (s : State) : (s.panelLost).argA = s.argA := rfl
@[simp] theorem State.panelLost_argB (s : State) : (s.panelLost).argB = s.argB := rfl
@[simp] theorem State.panelLost_lum (s : State) : (s.panelLost).lum = s.lum := rfl
@[simp] theorem State.panelLost_orbH (s : State) : (s.panelLost).orbH = s.orbH := rfl
@[simp] theorem State.panelLost_orbV (s : State) : (s.panelLost).orbV = s.orbV := rfl
@[simp] theorem State.panelLost_seq (s : State) : (s.panelLost).seq = s.seq := rfl
@[simp] theorem State.panelLost_busy (s : State) : (s.panelLost).busy = s.busy := rfl
@[simp] theorem State.panelLost_status (s : State) : (s.panelLost).status = s.status := rfl
@[simp] theorem State.panelLost_faultSeen (s : State) : (s.panelLost).faultSeen = s.faultSeen := rfl
@[simp] theorem State.panelLost_pstate (s : State) : (s.panelLost).pstate = s.pstate := rfl
@[simp] theorem State.panelLost_lines (s : State) : (s.panelLost).lines = s.lines := rfl
@[simp] theorem State.panelLost_trace (s : State) : (s.panelLost).trace = s.trace := rfl
@[simp] theorem State.panelLost_port (s : State) : (s.panelLost).port = s.port := rfl
@[simp] theorem State.panelLost_done (s : State) : (s.panelLost).done = s.done := rfl
@[simp] theorem State.panelLost_preg (s : State) : (s.panelLost).preg = [] := rfl
@[simp] theorem State.panelLost_panelKnown (s : State) : (s.panelLost).panelKnown = s.panelKnown := rfl
@[simp] theorem State.panelLost_answers (s : State) : (s.panelLost).answers = s.answers := rfl
@[simp] theorem State.panelLost_answerRest (s : State) : (s.panelLost).answerRest = s.answerRest := rfl
@[simp] theorem State.panelLost_host (s : State) : (s.panelLost).host = s.host := rfl

/-! ### `State.panelReset` -/

@[simp] theorem State.panelReset_params (s : State) : (s.panelReset).params = s.params := rfl
@[simp] theorem State.panelReset_op (s : State) : (s.panelReset).op = s.op := rfl
@[simp] theorem State.panelReset_argA (s : State) : (s.panelReset).argA = s.argA := rfl
@[simp] theorem State.panelReset_argB (s : State) : (s.panelReset).argB = s.argB := rfl
@[simp] theorem State.panelReset_lum (s : State) : (s.panelReset).lum = none := rfl
@[simp] theorem State.panelReset_orbH (s : State) : (s.panelReset).orbH = none := rfl
@[simp] theorem State.panelReset_orbV (s : State) : (s.panelReset).orbV = none := rfl
@[simp] theorem State.panelReset_seq (s : State) : (s.panelReset).seq = s.seq := rfl
@[simp] theorem State.panelReset_busy (s : State) : (s.panelReset).busy = s.busy := rfl
@[simp] theorem State.panelReset_status (s : State) : (s.panelReset).status = s.status := rfl
@[simp] theorem State.panelReset_faultSeen (s : State) : (s.panelReset).faultSeen = s.faultSeen := rfl
@[simp] theorem State.panelReset_pstate (s : State) : (s.panelReset).pstate = .reset := rfl
@[simp] theorem State.panelReset_lines (s : State) : (s.panelReset).lines = s.lines := rfl
@[simp] theorem State.panelReset_trace (s : State) : (s.panelReset).trace = s.trace := rfl
@[simp] theorem State.panelReset_port (s : State) : (s.panelReset).port = s.port := rfl
@[simp] theorem State.panelReset_done (s : State) : (s.panelReset).done = s.done := rfl
@[simp] theorem State.panelReset_preg (s : State) : (s.panelReset).preg = [] := rfl
@[simp] theorem State.panelReset_panelKnown (s : State) : (s.panelReset).panelKnown = false := rfl
@[simp] theorem State.panelReset_answers (s : State) : (s.panelReset).answers = s.answers := rfl
@[simp] theorem State.panelReset_answerRest (s : State) : (s.panelReset).answerRest = s.answerRest := rfl
@[simp] theorem State.panelReset_host (s : State) : (s.panelReset).host = s.host := rfl

/-! ### `State.panelInitialised` -/

@[simp] theorem State.panelInitialised_params (s : State) : (s.panelInitialised).params = s.params := rfl
@[simp] theorem State.panelInitialised_op (s : State) : (s.panelInitialised).op = s.op := rfl
@[simp] theorem State.panelInitialised_argA (s : State) : (s.panelInitialised).argA = s.argA := rfl
@[simp] theorem State.panelInitialised_argB (s : State) : (s.panelInitialised).argB = s.argB := rfl
@[simp] theorem State.panelInitialised_lum (s : State) : (s.panelInitialised).lum = some lumDefault := rfl
@[simp] theorem State.panelInitialised_orbH (s : State) : (s.panelInitialised).orbH = some orbDefault := rfl
@[simp] theorem State.panelInitialised_orbV (s : State) : (s.panelInitialised).orbV = some orbDefault := rfl
@[simp] theorem State.panelInitialised_seq (s : State) : (s.panelInitialised).seq = s.seq := rfl
@[simp] theorem State.panelInitialised_busy (s : State) : (s.panelInitialised).busy = s.busy := rfl
@[simp] theorem State.panelInitialised_status (s : State) : (s.panelInitialised).status = s.status := rfl
@[simp] theorem State.panelInitialised_faultSeen (s : State) : (s.panelInitialised).faultSeen = s.faultSeen := rfl
@[simp] theorem State.panelInitialised_pstate (s : State) : (s.panelInitialised).pstate = .active := rfl
@[simp] theorem State.panelInitialised_lines (s : State) : (s.panelInitialised).lines = s.lines := rfl
@[simp] theorem State.panelInitialised_trace (s : State) : (s.panelInitialised).trace = s.trace := rfl
@[simp] theorem State.panelInitialised_port (s : State) : (s.panelInitialised).port = s.port := rfl
@[simp] theorem State.panelInitialised_done (s : State) : (s.panelInitialised).done = s.done := rfl
@[simp] theorem State.panelInitialised_preg (s : State) : (s.panelInitialised).preg = burstImage s.params.burstMap := rfl
@[simp] theorem State.panelInitialised_panelKnown (s : State) : (s.panelInitialised).panelKnown = true := rfl
@[simp] theorem State.panelInitialised_answers (s : State) : (s.panelInitialised).answers = s.answers := rfl
@[simp] theorem State.panelInitialised_answerRest (s : State) : (s.panelInitialised).answerRest = s.answerRest := rfl
@[simp] theorem State.panelInitialised_host (s : State) : (s.panelInitialised).host = s.host := rfl

/-! ### `State.panelOn` -/

@[simp] theorem State.panelOn_params (s : State) : (s.panelOn).params = s.params := rfl
@[simp] theorem State.panelOn_op (s : State) : (s.panelOn).op = s.op := rfl
@[simp] theorem State.panelOn_argA (s : State) : (s.panelOn).argA = s.argA := rfl
@[simp] theorem State.panelOn_argB (s : State) : (s.panelOn).argB = s.argB := rfl
@[simp] theorem State.panelOn_lum (s : State) : (s.panelOn).lum = s.lum := rfl
@[simp] theorem State.panelOn_orbH (s : State) : (s.panelOn).orbH = s.orbH := rfl
@[simp] theorem State.panelOn_orbV (s : State) : (s.panelOn).orbV = s.orbV := rfl
@[simp] theorem State.panelOn_seq (s : State) : (s.panelOn).seq = s.seq := rfl
@[simp] theorem State.panelOn_busy (s : State) : (s.panelOn).busy = s.busy := rfl
@[simp] theorem State.panelOn_status (s : State) : (s.panelOn).status = s.status := rfl
@[simp] theorem State.panelOn_faultSeen (s : State) : (s.panelOn).faultSeen = s.faultSeen := rfl
@[simp] theorem State.panelOn_pstate (s : State) : (s.panelOn).pstate = s.pstate.afterPon := rfl
@[simp] theorem State.panelOn_lines (s : State) : (s.panelOn).lines = s.lines := rfl
@[simp] theorem State.panelOn_trace (s : State) : (s.panelOn).trace = s.trace := rfl
@[simp] theorem State.panelOn_port (s : State) : (s.panelOn).port = s.port := rfl
@[simp] theorem State.panelOn_done (s : State) : (s.panelOn).done = s.done := rfl
@[simp] theorem State.panelOn_preg (s : State) : (s.panelOn).preg = s.preg := rfl
@[simp] theorem State.panelOn_panelKnown (s : State) : (s.panelOn).panelKnown = s.panelKnown := rfl
@[simp] theorem State.panelOn_answers (s : State) : (s.panelOn).answers = s.answers := rfl
@[simp] theorem State.panelOn_answerRest (s : State) : (s.panelOn).answerRest = s.answerRest := rfl
@[simp] theorem State.panelOn_host (s : State) : (s.panelOn).host = s.host := rfl

/-! ### `State.panelOff` -/

@[simp] theorem State.panelOff_params (s : State) : (s.panelOff).params = s.params := rfl
@[simp] theorem State.panelOff_op (s : State) : (s.panelOff).op = s.op := rfl
@[simp] theorem State.panelOff_argA (s : State) : (s.panelOff).argA = s.argA := rfl
@[simp] theorem State.panelOff_argB (s : State) : (s.panelOff).argB = s.argB := rfl
@[simp] theorem State.panelOff_lum (s : State) : (s.panelOff).lum = s.lum := rfl
@[simp] theorem State.panelOff_orbH (s : State) : (s.panelOff).orbH = s.orbH := rfl
@[simp] theorem State.panelOff_orbV (s : State) : (s.panelOff).orbV = s.orbV := rfl
@[simp] theorem State.panelOff_seq (s : State) : (s.panelOff).seq = s.seq := rfl
@[simp] theorem State.panelOff_busy (s : State) : (s.panelOff).busy = s.busy := rfl
@[simp] theorem State.panelOff_status (s : State) : (s.panelOff).status = s.status := rfl
@[simp] theorem State.panelOff_faultSeen (s : State) : (s.panelOff).faultSeen = s.faultSeen := rfl
@[simp] theorem State.panelOff_pstate (s : State) : (s.panelOff).pstate = s.pstate.afterPoff := rfl
@[simp] theorem State.panelOff_lines (s : State) : (s.panelOff).lines = s.lines := rfl
@[simp] theorem State.panelOff_trace (s : State) : (s.panelOff).trace = s.trace := rfl
@[simp] theorem State.panelOff_port (s : State) : (s.panelOff).port = s.port := rfl
@[simp] theorem State.panelOff_done (s : State) : (s.panelOff).done = s.done := rfl
@[simp] theorem State.panelOff_preg (s : State) : (s.panelOff).preg = s.preg := rfl
@[simp] theorem State.panelOff_panelKnown (s : State) : (s.panelOff).panelKnown = s.panelKnown := rfl
@[simp] theorem State.panelOff_answers (s : State) : (s.panelOff).answers = s.answers := rfl
@[simp] theorem State.panelOff_answerRest (s : State) : (s.panelOff).answerRest = s.answerRest := rfl
@[simp] theorem State.panelOff_host (s : State) : (s.panelOff).host = s.host := rfl

/-! ### `State.enterAbort` -/

@[simp] theorem State.enterAbort_params (s : State) : (s.enterAbort).params = s.params := rfl
@[simp] theorem State.enterAbort_op (s : State) : (s.enterAbort).op = s.op := rfl
@[simp] theorem State.enterAbort_argA (s : State) : (s.enterAbort).argA = s.argA := rfl
@[simp] theorem State.enterAbort_argB (s : State) : (s.enterAbort).argB = s.argB := rfl
@[simp] theorem State.enterAbort_lum (s : State) : (s.enterAbort).lum = s.lum := rfl
@[simp] theorem State.enterAbort_orbH (s : State) : (s.enterAbort).orbH = s.orbH := rfl
@[simp] theorem State.enterAbort_orbV (s : State) : (s.enterAbort).orbV = s.orbV := rfl
@[simp] theorem State.enterAbort_seq (s : State) : (s.enterAbort).seq = .aborting 0 := rfl
@[simp] theorem State.enterAbort_busy (s : State) : (s.enterAbort).busy = s.busy := rfl
@[simp] theorem State.enterAbort_status (s : State) : (s.enterAbort).status = s.status := rfl
@[simp] theorem State.enterAbort_faultSeen (s : State) : (s.enterAbort).faultSeen = s.faultSeen := rfl
@[simp] theorem State.enterAbort_pstate (s : State) : (s.enterAbort).pstate = s.pstate := rfl
@[simp] theorem State.enterAbort_lines (s : State) : (s.enterAbort).lines = s.lines := rfl
@[simp] theorem State.enterAbort_trace (s : State) : (s.enterAbort).trace = s.trace := rfl
@[simp] theorem State.enterAbort_port (s : State) : (s.enterAbort).port = s.port := rfl
@[simp] theorem State.enterAbort_done (s : State) : (s.enterAbort).done = s.done := rfl
@[simp] theorem State.enterAbort_preg (s : State) : (s.enterAbort).preg = s.preg := rfl
@[simp] theorem State.enterAbort_panelKnown (s : State) : (s.enterAbort).panelKnown = false := rfl
@[simp] theorem State.enterAbort_answers (s : State) : (s.enterAbort).answers = s.answers := rfl
@[simp] theorem State.enterAbort_answerRest (s : State) : (s.enterAbort).answerRest = s.answerRest := rfl
@[simp] theorem State.enterAbort_host (s : State) : (s.enterAbort).host = s.host := rfl

/-! ### `State.accept` -/

@[simp] theorem State.accept_params (w : CmdWord) (s : State) : (s.accept w).params = s.params := rfl
@[simp] theorem State.accept_op (w : CmdWord) (s : State) : (s.accept w).op = some (opField w) := rfl
@[simp] theorem State.accept_argA (w : CmdWord) (s : State) : (s.accept w).argA = some (aField w) := rfl
@[simp] theorem State.accept_argB (w : CmdWord) (s : State) : (s.accept w).argB = some (bField w) := rfl
@[simp] theorem State.accept_lum (w : CmdWord) (s : State) : (s.accept w).lum = s.lum := rfl
@[simp] theorem State.accept_orbH (w : CmdWord) (s : State) : (s.accept w).orbH = s.orbH := rfl
@[simp] theorem State.accept_orbV (w : CmdWord) (s : State) : (s.accept w).orbV = s.orbV := rfl
@[simp] theorem State.accept_seq (w : CmdWord) (s : State) : (s.accept w).seq = .running 0 := rfl
@[simp] theorem State.accept_busy (w : CmdWord) (s : State) : (s.accept w).busy = true := rfl
@[simp] theorem State.accept_status (w : CmdWord) (s : State) : (s.accept w).status = s.status := rfl
@[simp] theorem State.accept_faultSeen (w : CmdWord) (s : State) : (s.accept w).faultSeen = s.faultSeen := rfl
@[simp] theorem State.accept_pstate (w : CmdWord) (s : State) : (s.accept w).pstate = s.pstate := rfl
@[simp] theorem State.accept_lines (w : CmdWord) (s : State) : (s.accept w).lines = s.lines := rfl
@[simp] theorem State.accept_trace (w : CmdWord) (s : State) : (s.accept w).trace = s.trace := rfl
@[simp] theorem State.accept_port (w : CmdWord) (s : State) : (s.accept w).port = s.port := rfl
@[simp] theorem State.accept_done (w : CmdWord) (s : State) : (s.accept w).done = s.done := rfl
@[simp] theorem State.accept_preg (w : CmdWord) (s : State) : (s.accept w).preg = s.preg := rfl
@[simp] theorem State.accept_panelKnown (w : CmdWord) (s : State) : (s.accept w).panelKnown = s.panelKnown := rfl
@[simp] theorem State.accept_answers (w : CmdWord) (s : State) : (s.accept w).answers = s.answers := rfl
@[simp] theorem State.accept_answerRest (w : CmdWord) (s : State) : (s.accept w).answerRest = s.answerRest := rfl
@[simp] theorem State.accept_host (w : CmdWord) (s : State) : (s.accept w).host = s.host := rfl

/-! ### `State.clearDone` -/

@[simp] theorem State.clearDone_params (s : State) : (s.clearDone).params = s.params := rfl
@[simp] theorem State.clearDone_op (s : State) : (s.clearDone).op = s.op := rfl
@[simp] theorem State.clearDone_argA (s : State) : (s.clearDone).argA = s.argA := rfl
@[simp] theorem State.clearDone_argB (s : State) : (s.clearDone).argB = s.argB := rfl
@[simp] theorem State.clearDone_lum (s : State) : (s.clearDone).lum = s.lum := rfl
@[simp] theorem State.clearDone_orbH (s : State) : (s.clearDone).orbH = s.orbH := rfl
@[simp] theorem State.clearDone_orbV (s : State) : (s.clearDone).orbV = s.orbV := rfl
@[simp] theorem State.clearDone_seq (s : State) : (s.clearDone).seq = s.seq := rfl
@[simp] theorem State.clearDone_busy (s : State) : (s.clearDone).busy = s.busy := rfl
@[simp] theorem State.clearDone_status (s : State) : (s.clearDone).status = s.status := rfl
@[simp] theorem State.clearDone_faultSeen (s : State) : (s.clearDone).faultSeen = s.faultSeen := rfl
@[simp] theorem State.clearDone_pstate (s : State) : (s.clearDone).pstate = s.pstate := rfl
@[simp] theorem State.clearDone_lines (s : State) : (s.clearDone).lines = s.lines := rfl
@[simp] theorem State.clearDone_trace (s : State) : (s.clearDone).trace = s.trace := rfl
@[simp] theorem State.clearDone_port (s : State) : (s.clearDone).port = s.port := rfl
@[simp] theorem State.clearDone_done (s : State) : (s.clearDone).done = false := rfl
@[simp] theorem State.clearDone_preg (s : State) : (s.clearDone).preg = s.preg := rfl
@[simp] theorem State.clearDone_panelKnown (s : State) : (s.clearDone).panelKnown = s.panelKnown := rfl
@[simp] theorem State.clearDone_answers (s : State) : (s.clearDone).answers = s.answers := rfl
@[simp] theorem State.clearDone_answerRest (s : State) : (s.clearDone).answerRest = s.answerRest := rfl
@[simp] theorem State.clearDone_host (s : State) : (s.clearDone).host = s.host := rfl

/-! ### `State.popHost` -/

@[simp] theorem State.popHost_params (s : State) : (s.popHost).params = s.params := rfl
@[simp] theorem State.popHost_op (s : State) : (s.popHost).op = s.op := rfl
@[simp] theorem State.popHost_argA (s : State) : (s.popHost).argA = s.argA := rfl
@[simp] theorem State.popHost_argB (s : State) : (s.popHost).argB = s.argB := rfl
@[simp] theorem State.popHost_lum (s : State) : (s.popHost).lum = s.lum := rfl
@[simp] theorem State.popHost_orbH (s : State) : (s.popHost).orbH = s.orbH := rfl
@[simp] theorem State.popHost_orbV (s : State) : (s.popHost).orbV = s.orbV := rfl
@[simp] theorem State.popHost_seq (s : State) : (s.popHost).seq = s.seq := rfl
@[simp] theorem State.popHost_busy (s : State) : (s.popHost).busy = s.busy := rfl
@[simp] theorem State.popHost_status (s : State) : (s.popHost).status = s.status := rfl
@[simp] theorem State.popHost_faultSeen (s : State) : (s.popHost).faultSeen = s.faultSeen := rfl
@[simp] theorem State.popHost_pstate (s : State) : (s.popHost).pstate = s.pstate := rfl
@[simp] theorem State.popHost_lines (s : State) : (s.popHost).lines = s.lines := rfl
@[simp] theorem State.popHost_trace (s : State) : (s.popHost).trace = s.trace := rfl
@[simp] theorem State.popHost_port (s : State) : (s.popHost).port = s.port := rfl
@[simp] theorem State.popHost_done (s : State) : (s.popHost).done = s.done := rfl
@[simp] theorem State.popHost_preg (s : State) : (s.popHost).preg = s.preg := rfl
@[simp] theorem State.popHost_panelKnown (s : State) : (s.popHost).panelKnown = s.panelKnown := rfl
@[simp] theorem State.popHost_answers (s : State) : (s.popHost).answers = s.answers := rfl
@[simp] theorem State.popHost_answerRest (s : State) : (s.popHost).answerRest = s.answerRest := rfl
@[simp] theorem State.popHost_host (s : State) : (s.popHost).host = s.host.tail := rfl

/-! ### `State.blockReset` -/

@[simp] theorem State.blockReset_params (s : State) : (s.blockReset).params = s.params := rfl
@[simp] theorem State.blockReset_op (s : State) : (s.blockReset).op = none := rfl
@[simp] theorem State.blockReset_argA (s : State) : (s.blockReset).argA = none := rfl
@[simp] theorem State.blockReset_argB (s : State) : (s.blockReset).argB = none := rfl
@[simp] theorem State.blockReset_lum (s : State) : (s.blockReset).lum = none := rfl
@[simp] theorem State.blockReset_orbH (s : State) : (s.blockReset).orbH = none := rfl
@[simp] theorem State.blockReset_orbV (s : State) : (s.blockReset).orbV = none := rfl
@[simp] theorem State.blockReset_seq (s : State) : (s.blockReset).seq = .idle := rfl
@[simp] theorem State.blockReset_busy (s : State) : (s.blockReset).busy = false := rfl
@[simp] theorem State.blockReset_status (s : State) : (s.blockReset).status = .ok := rfl
@[simp] theorem State.blockReset_faultSeen (s : State) : (s.blockReset).faultSeen = false := rfl
@[simp] theorem State.blockReset_pstate (s : State) : (s.blockReset).pstate = .uninit := rfl
@[simp] theorem State.blockReset_lines (s : State) : (s.blockReset).lines = Lines.unknown := rfl
@[simp] theorem State.blockReset_trace (s : State) : (s.blockReset).trace = [] := rfl
@[simp] theorem State.blockReset_port (s : State) : (s.blockReset).port = none := rfl
@[simp] theorem State.blockReset_done (s : State) : (s.blockReset).done = false := rfl
@[simp] theorem State.blockReset_preg (s : State) : (s.blockReset).preg = [] := rfl
@[simp] theorem State.blockReset_panelKnown (s : State) : (s.blockReset).panelKnown = false := rfl
@[simp] theorem State.blockReset_answers (s : State) : (s.blockReset).answers = s.answers := rfl
@[simp] theorem State.blockReset_answerRest (s : State) : (s.blockReset).answerRest = s.answerRest := rfl
@[simp] theorem State.blockReset_host (s : State) : (s.blockReset).host = s.host := rfl

end Sys2Proof.Machine
end

