-- ==== Sys2Proof/Laws/Run.lean ====
section
/-! SUPPORT. What the run of an event list and the abort procedure can do, said once: the property they keep, where they
end, and what they compute when the Transport acknowledges everything. -/

namespace Sys2Proof.Machine

/-! ### Replies -/

/-- The Transport's reply depends on the answers and the parameters alone. -/
theorem State.reply_congr {s t : State} (hp : t.params = s.params) (ha : t.answers = s.answers)
    (hr : t.answerRest = s.answerRest) (e : Event) : t.reply e = s.reply e := by
  simp [State.reply, State.answer, hp, ha, hr]

theorem State.acksAll_congr {s t : State} (es : List Event) (hp : t.params = s.params) (ha : t.answers = s.answers)
    (hr : t.answerRest = s.answerRest) : t.acksAll es ↔ s.acksAll es := by
  induction es generalizing s t with
  | nil => exact Iff.rfl
  | cons e es ih =>
    simp only [State.acksAll, State.reply_congr hp ha hr]
    exact and_congr_right fun _ => ih (by simpa) (by simp [ha]) (by simpa)

theorem State.acksAll_append (s : State) (es fs : List Event) :
    s.acksAll (es ++ fs) ↔ s.acksAll es ∧ (s.afterAnswers es.length).acksAll fs := by
  induction es generalizing s with
  | nil => simp [State.acksAll, State.afterAnswers]
  | cons e es ih =>
    simp only [List.cons_append, State.acksAll, ih, and_assoc, List.length_cons]
    refine and_congr_right fun _ => and_congr_right fun _ => State.acksAll_congr _ rfl ?_ rfl
    simp

/-- A `Wait` is never acknowledged with a fault (R110). -/
theorem State.reply_wait_ne_fault (s : State) (d : Nat) : s.reply (.wait d) ≠ some .fault := by
  unfold State.reply
  cases s.answer <;> simp [Event.canFault]

/-- Without `TRANSPORT_FAULTS` nothing is acknowledged with a fault (R108). -/
theorem State.reply_ne_fault {s : State} (h : s.params.transportFaults = false) (e : Event) :
    s.reply e ≠ some .fault := by
  unfold State.reply
  cases s.answer <;> simp [h]

/-! ### State writes of an event list -/

/-- A state write that leaves alone what the run itself reads and writes. -/
structure Tame (f : State → State) : Prop where
  params : ∀ s, (f s).params = s.params
  answers : ∀ s, (f s).answers = s.answers
  answerRest : ∀ s, (f s).answerRest = s.answerRest
  trace : ∀ s, (f s).trace = s.trace
  port : ∀ s, (f s).port = s.port
  seq : ∀ s, (f s).seq = s.seq
  busy : ∀ s, (f s).busy = s.busy
  lines : ∀ s, (f s).lines = s.lines
  faultSeen : ∀ s, (f s).faultSeen = s.faultSeen
  status : ∀ s, (f s).status = s.status
  op : ∀ s, (f s).op = s.op
  argA : ∀ s, (f s).argA = s.argA
  argB : ∀ s, (f s).argB = s.argB
  host : ∀ s, (f s).host = s.host
  done : ∀ s, (f s).done = s.done

/-- Both state writes of an event are tame. -/
def Item.Lawful (it : Item) : Prop := Tame it.onAck ∧ Tame it.onFault

/-- A property of states that every operation of a run keeps, as long as the events of the run are among `E`, which holds the
abort procedure's own. -/
structure RunClosed (E : Event → Prop) (P : State → Prop) : Prop where
  abortLine : E (.setLine .cs .high)
  abortWait : ∀ d, E (.wait d)
  offer : ∀ e s, E e → P s → P (s.offer e)
  acknowledge : ∀ e r s, E e → P s → P (s.acknowledge e r)
  moveTo : ∀ q s, P s → P (s.moveTo q)
  enterAbort : ∀ s, P s → P s.enterAbort
  complete : ∀ s, P s → P (s.complete .ok)
  completeFault : ∀ s, P s → P s.completeFault

theorem abortEvents_among {E : Event → Prop} {P : State → Prop} (hP : RunClosed E P) (t : Transport) :
    ∀ e ∈ abortEvents t, E e := by
  intro e he
  simp only [abortEvents, List.mem_cons, List.not_mem_nil, or_false] at he
  rcases he with rfl | rfl
  · exact hP.abortLine
  · exact hP.abortWait _

theorem runAbort_keeps {E : Event → Prop} {P : State → Prop} (hP : RunClosed E P) (es : List Event)
    (he : ∀ e ∈ es, E e) (k : Nat) (s : State) (h : P s) : P (runAbort k es s) := by
  induction es generalizing k s with
  | nil => exact hP.completeFault s h
  | cons e es ih =>
    have hE := he e List.mem_cons_self
    simp only [runAbort]
    split
    · exact hP.offer e s hE h
    · exact ih (fun f hf => he f (List.mem_cons_of_mem _ hf)) _ _ (hP.moveTo _ _ (hP.acknowledge _ _ _ hE h))

/-- A property that the run's operations and the list's state writes keep holds at the end of the run. -/
theorem runItems_keeps {E : Event → Prop} {P : State → Prop} (hP : RunClosed E P) (items : List Item)
    (hi : ∀ it ∈ items, E it.event ∧ ∀ s, P s → P (it.onAck s) ∧ P (it.onFault s)) (k : Nat) (s : State) (h : P s) :
    P (runItems k items s) := by
  induction items generalizing k s with
  | nil => exact hP.complete s h
  | cons it rest ih =>
    simp only [runItems]
    obtain ⟨hE, hit⟩ := hi it List.mem_cons_self
    split
    · exact hP.offer _ s hE h
    · exact ih (fun j hj => hi j (List.mem_cons_of_mem _ hj)) _ _
        (hit _ (hP.moveTo _ _ (hP.acknowledge _ _ _ hE h))).1
    · exact runAbort_keeps hP _ (abortEvents_among hP _) _ _
        (hP.enterAbort _ (hit _ (hP.acknowledge _ _ _ hE h)).2)

/-- The same for a whole command, begun or carried on. -/
theorem runCommand_keeps {E : Event → Prop} {P : State → Prop} (hP : RunClosed E P) (hstart : ∀ s, P s → P s.start)
    (items : List Item) (hi : ∀ it ∈ items, E it.event ∧ ∀ s, P s → P (it.onAck s) ∧ P (it.onFault s)) (s : State)
    (h : P s) : P (runCommand items s) := by
  unfold runCommand
  split
  · exact runItems_keeps hP _ (fun it hit => hi it (List.mem_of_mem_drop hit)) _ _ h
  · exact runAbort_keeps hP _ (fun e he => abortEvents_among hP _ e (List.mem_of_mem_drop he)) _ _ h
  · exact runItems_keeps hP _ hi _ _ (hstart _ h)
  · exact runItems_keeps hP _ hi _ _ (hstart _ h)

/-! ### A run in which everything is acknowledged -/

/-- The state after the events of a list were all acknowledged without fault. -/
def performAll : Nat → List Item → State → State
  | _, [], s => s
  | k, it :: rest, s => performAll (k + 1) rest (it.onAck ((s.acknowledge it.event .ok).moveTo (.running (k + 1))))

theorem runItems_acksAll (items : List Item) (hl : ∀ it ∈ items, it.Lawful) (k : Nat) (s : State)
    (h : s.acksAll (items.map Item.event)) : runItems k items s = (performAll k items s).complete .ok := by
  induction items generalizing k s with
  | nil => rfl
  | cons it rest ih =>
    obtain ⟨h1, h2⟩ := h
    have ht := (hl it List.mem_cons_self).1
    simp only [runItems, h1, performAll]
    refine ih (fun j hj => hl j (List.mem_cons_of_mem _ hj)) _ _ ((State.acksAll_congr _ ?_ ?_ ?_).2 h2) <;>
      simp [ht.params, ht.answers, ht.answerRest]

/-- At a command's beginning the run starts at its first event, and it does not matter whether `start` was done before. -/
theorem runCommand_atStart (items : List Item) (s : State) (h : s.atStart) :
    runCommand items s = runItems 0 items s.start := by
  unfold runCommand
  rcases h with h | h
  · rw [h]
  · rw [h]
    cases hb : s.busy with
    | false => rfl
    | true =>
      have : s.start = s := by
        cases s
        simp_all [State.start]
      simp [this]

/-- The run of a list up to an event at which everything before it was acknowledged. -/
theorem runItems_append (xs ys : List Item) (hl : ∀ it ∈ xs, it.Lawful) (k : Nat) (s : State)
    (h : s.acksAll (xs.map Item.event)) :
    runItems k (xs ++ ys) s = runItems (k + xs.length) ys (performAll k xs s) := by
  induction xs generalizing k s with
  | nil => rfl
  | cons it rest ih =>
    obtain ⟨h1, h2⟩ := h
    have ht := (hl it List.mem_cons_self).1
    simp only [List.cons_append, runItems, h1, performAll]
    rw [ih (fun j hj => hl j (List.mem_cons_of_mem _ hj))]
    · simp [Nat.add_comm, Nat.add_left_comm]
    · refine (State.acksAll_congr _ ?_ ?_ ?_).2 h2 <;> simp [ht.params, ht.answers, ht.answerRest]

/-- What the state writes of acknowledged events leave alone, and what the events themselves do. -/
theorem performAll_spec (items : List Item) (hl : ∀ it ∈ items, it.Lawful) (k : Nat) (s : State) :
    (performAll k items s).params = s.params ∧ (performAll k items s).answerRest = s.answerRest ∧
    (performAll k items s).answers = s.answers.drop items.length ∧
    (performAll k items s).trace = s.trace ++ okEntries (items.map Item.event) ∧
    (performAll k items s).status = s.status ∧ (performAll k items s).faultSeen = s.faultSeen ∧
    (performAll k items s).busy = s.busy ∧ (performAll k items s).done = s.done := by
  induction items generalizing k s with
  | nil => simp [performAll, okEntries]
  | cons it rest ih =>
    have ht := (hl it List.mem_cons_self).1
    have := ih (fun j hj => hl j (List.mem_cons_of_mem _ hj)) (k + 1)
      (it.onAck ((s.acknowledge it.event .ok).moveTo (.running (k + 1))))
    simp only [performAll]
    simpa [ht.params, ht.answers, ht.answerRest, ht.trace, ht.status, ht.faultSeen, ht.busy, ht.done, okEntries,
      List.append_assoc] using this

/-! ### A run that faults, and a run that waits -/

/-- TAKING THE FAULT: a run whose event `k` faults, with the abort procedure's events acknowledged (R196). -/
theorem runCommand_faultsAt (items : List Item) (hl : ∀ it ∈ items, it.Lawful) (s : State) (h : s.atStart) (k : Nat)
    (it : Item) (hk : items[k]? = some it) (r : Reply) (hf : s.FaultsAt (items.map Item.event) k it.event r) :
    runCommand items s =
      ((((it.onFault ((performAll 0 (items.take k) s.start).acknowledge it.event .fault)).enterAbort.acknowledge
        (.setLine .cs .high) r).moveTo (.aborting 1)).acknowledge (.wait (tIdle s.params.transport)) .ok
          |>.moveTo (.aborting 2)).completeFault := by
  obtain ⟨-, hack, hfault, h1, h2⟩ := hf
  obtain ⟨hlt, hget⟩ := List.getElem?_eq_some_iff.1 hk
  have hsplit : items = items.take k ++ it :: items.drop (k + 1) := by
    rw [← hget, List.cons_getElem_drop_succ, List.take_append_drop]
  have hlk : ∀ j ∈ items.take k, j.Lawful := fun j hj => hl j (List.mem_of_mem_take hj)
  have ht := (hl it (hget ▸ List.getElem_mem hlt)).2
  obtain ⟨p1, p2, p3, -⟩ := performAll_spec (items.take k) hlk 0 s.start
  have hlen : (items.take k).length = k := by rw [List.length_take]; omega
  rw [hlen] at p3
  rw [runCommand_atStart items s h]
  conv_lhs => rw [hsplit]
  rw [runItems_append _ _ hlk 0 s.start (by
    rw [List.map_take]; exact (State.acksAll_congr (s := s) (t := s.start) _ rfl rfl rfl).2 hack)]
  have q0 : (performAll 0 (items.take k) s.start).reply it.event = some .fault := by
    rw [← hfault]; exact State.reply_congr (by simpa using p1) (by simpa using p3) (by simpa using p2) _
  simp only [runItems, q0, p1, State.start_params, abortEvents, runAbort]
  have q1 : (it.onFault ((performAll 0 (items.take k) s.start).acknowledge it.event .fault)).enterAbort.reply
      (.setLine .cs .high) = some r := by
    rw [← h1]
    refine State.reply_congr ?_ ?_ ?_ _ <;> simp [ht.params, ht.answers, ht.answerRest, p1, p2, p3, ← List.drop_one]
  simp only [q1]
  have q2 : ∀ q, (((it.onFault ((performAll 0 (items.take k) s.start).acknowledge it.event .fault)).enterAbort.acknowledge
      (.setLine .cs .high) r).moveTo q).reply (.wait (tIdle s.params.transport)) = some .ok := by
    intro q
    rw [← h2]
    refine State.reply_congr ?_ ?_ ?_ _ <;> simp [ht.params, ht.answers, ht.answerRest, p1, p2, p3, ← List.drop_one]
  simp only [q2]

/-- A run whose event `k` the Transport does not acknowledge stays at it (R203). -/
theorem runCommand_holdsAt (items : List Item) (hl : ∀ it ∈ items, it.Lawful) (s : State) (h : s.atStart) (k : Nat)
    (it : Item) (hk : items[k]? = some it) (hack : s.acksAll ((items.take k).map Item.event))
    (hh : (s.afterAnswers k).answer = .hold) :
    runCommand items s = (performAll 0 (items.take k) s.start).offer it.event := by
  obtain ⟨hlt, hget⟩ := List.getElem?_eq_some_iff.1 hk
  have hsplit : items = items.take k ++ it :: items.drop (k + 1) := by
    rw [← hget, List.cons_getElem_drop_succ, List.take_append_drop]
  have hlk : ∀ j ∈ items.take k, j.Lawful := fun j hj => hl j (List.mem_of_mem_take hj)
  obtain ⟨p1, p2, p3, -⟩ := performAll_spec (items.take k) hlk 0 s.start
  have hlen : (items.take k).length = k := by rw [List.length_take]; omega
  rw [hlen] at p3
  rw [runCommand_atStart items s h]
  conv_lhs => rw [hsplit]
  rw [runItems_append _ _ hlk 0 s.start ((State.acksAll_congr (s := s) (t := s.start) _ rfl rfl rfl).2 hack)]
  have q0 : (performAll 0 (items.take k) s.start).reply it.event = none := by
    have : (s.afterAnswers k).reply it.event = none := by simp [State.reply, hh]
    rw [← this]; exact State.reply_congr (by simpa using p1) (by simpa using p3) (by simpa using p2) _
  simp only [runItems, q0]

/-- After acknowledged events the sequencer stands behind the last of them. -/
theorem performAll_seq (items : List Item) (hl : ∀ it ∈ items, it.Lawful) (k : Nat) (s : State)
    (h : s.seq = .running k) : (performAll k items s).seq = .running (k + items.length) := by
  induction items generalizing k s with
  | nil => simpa [performAll] using h
  | cons it rest ih =>
    have ht := (hl it List.mem_cons_self).1
    simp only [performAll]
    rw [ih (fun j hj => hl j (List.mem_cons_of_mem _ hj)) (k + 1) _ (by simp [ht.seq])]
    simp [Nat.add_comm, Nat.add_left_comm]

/-! ### Where a run ends -/

/-- Where a run stands at its end: idle and offering nothing, or waiting at an event of the list `es`, or waiting at an event
of the abort procedure `ab`; the event it waits at is offered. -/
inductive RunEnd (es ab : List Event) (t : State) : Prop where
  | completed (hb : t.busy = false) (hs : t.seq = .idle) (hp : t.port = none)
  | waits (k : Nat) (e : Event) (hb : t.busy = true) (hs : t.seq = .running k) (hp : t.port = some e) (he : es[k]? = some e)
  | waitsAborting (k : Nat) (e : Event) (hb : t.busy = true) (hs : t.seq = .aborting k) (hp : t.port = some e)
      (he : ab[k]? = some e)

theorem getElem?_of_drop_eq_cons {α : Type} {xs ys : List α} {x : α} {k : Nat} (h : xs.drop k = x :: ys) :
    xs[k]? = some x ∧ xs.drop (k + 1) = ys := by
  refine ⟨?_, ?_⟩
  · simpa [List.head?_drop] using congrArg List.head? h
  · rw [← List.drop_drop, h]
    rfl

theorem runAbort_end (es ab : List Event) (k : Nat) (s : State) (hb : s.busy = true) (hs : s.seq = .aborting k)
    (hp : k < ab.length ∨ s.port = none) : RunEnd es ab (runAbort k (ab.drop k) s) := by
  generalize hd : ab.drop k = rest
  induction rest generalizing k s with
  | nil =>
    have hk : ab.length ≤ k := by simpa using hd
    refine .completed rfl rfl ?_
    rcases hp with h | h
    · omega
    · simpa [runAbort] using h
  | cons e rest ih =>
    obtain ⟨he, hd'⟩ := getElem?_of_drop_eq_cons hd
    simp only [runAbort]
    split
    · exact .waitsAborting k e (by simpa using hb) (by simpa using hs) (by simp) he
    · exact ih (k + 1) _ (by simpa using hb) (by simp) (.inr (by simp)) hd'

theorem runItems_end (items : List Item) (hl : ∀ it ∈ items, it.Lawful) (k : Nat) (s : State) (hb : s.busy = true)
    (hs : s.seq = .running k) (hp : k < items.length ∨ s.port = none) :
    RunEnd (items.map Item.event) (abortEvents s.params.transport) (runItems k (items.drop k) s) := by
  generalize hq : s.params = q
  generalize hd : items.drop k = rest
  induction rest generalizing k s with
  | nil =>
    have hk : items.length ≤ k := by simpa using hd
    refine .completed rfl rfl ?_
    rcases hp with h | h
    · omega
    · simpa [runItems] using h
  | cons it rest ih =>
    obtain ⟨he, hd'⟩ := getElem?_of_drop_eq_cons hd
    have hit := hl it (List.mem_of_getElem? he)
    simp only [runItems]
    split
    · exact .waits k it.event (by simpa using hb) (by simpa using hs) (by simp) (by simp [he])
    · exact ih (k + 1) _ (by simpa [hit.1.busy] using hb) (by simp [hit.1.seq]) (.inr (by simp [hit.1.port]))
        (by simpa [hit.1.params] using hq) hd'
    · rw [hq]
      exact runAbort_end _ _ 0 _ (by simpa [hit.2.busy] using hb) (by simp) (.inl (by simp [abortEvents]))

end Sys2Proof.Machine
end

