-- ==== Sys2Proof/Laws/Frame.lean ====
section
/-! SUPPORT. Transactions and commands as event lists: the events of each, and that the state writes of every command are
tame. -/

namespace Sys2Proof.Machine

/-! ### Events -/

theorem events_txn (t : Transport) (bs : List Byte) (done cut : State → State) :
    (txn t bs done cut).map Item.event =
      [.setLine .cs .low, .wait (tSettle t)] ++ bs.map Event.xfer
        ++ [.wait (tSettle t), .setLine .cs .high, .wait (tIdle t)] := by
  simp [txn, Function.comp_def]

theorem events_writeWord (t : Transport) (w : Word16) (done cut : State → State) :
    (writeWord t w done cut).map Item.event = wordEvents t (addrByte w) (valByte w) := by
  simp [writeWord, events_txn, wordEvents]

@[simp] theorem writeRegisters_nil (t : Transport) : writeRegisters t [] = [] := rfl

@[simp] theorem writeRegisters_cons (t : Transport) (r : RegWrite) (rs : List RegWrite) :
    writeRegisters t (r :: rs) = writeWord t r.word r.done r.cut ++ writeRegisters t rs := rfl

theorem length_writeWord (t : Transport) (w : Word16) (done cut : State → State) :
    (writeWord t w done cut).length = 7 := rfl

/-! ### Tame state writes -/

theorem tame_id : Tame id := by constructor <;> intro s <;> rfl

theorem Tame.comp {f g : State → State} (hf : Tame f) (hg : Tame g) : Tame fun s => f (g s) where
  params s := (hf.params _).trans (hg.params s)
  answers s := (hf.answers _).trans (hg.answers s)
  answerRest s := (hf.answerRest _).trans (hg.answerRest s)
  trace s := (hf.trace _).trans (hg.trace s)
  port s := (hf.port _).trans (hg.port s)
  seq s := (hf.seq _).trans (hg.seq s)
  busy s := (hf.busy _).trans (hg.busy s)
  lines s := (hf.lines _).trans (hg.lines s)
  faultSeen s := (hf.faultSeen _).trans (hg.faultSeen s)
  status s := (hf.status _).trans (hg.status s)
  op s := (hf.op _).trans (hg.op s)
  argA s := (hf.argA _).trans (hg.argA s)
  argB s := (hf.argB _).trans (hg.argB s)
  host s := (hf.host _).trans (hg.host s)
  done s := (hf.done _).trans (hg.done s)

theorem tame_panelSent (w : Word16) : Tame (State.panelSent w) := by constructor <;> intro s <;> rfl
theorem tame_panelCut (w : Word16) : Tame (State.panelCut w) := by constructor <;> intro s <;> rfl
theorem tame_panelLost : Tame State.panelLost := by constructor <;> intro s <;> rfl
theorem tame_panelReset : Tame State.panelReset := by constructor <;> intro s <;> rfl
theorem tame_panelInitialised : Tame State.panelInitialised := by constructor <;> intro s <;> rfl
theorem tame_panelOn : Tame State.panelOn := by constructor <;> intro s <;> rfl
theorem tame_panelOff : Tame State.panelOff := by constructor <;> intro s <;> rfl
theorem tame_lumSent (c : Nat) : Tame (State.lumSent c) := by constructor <;> intro s <;> rfl
theorem tame_lumCut : Tame State.lumCut := by constructor <;> intro s <;> rfl
theorem tame_orbHSent (c : Int) : Tame (State.orbHSent c) := by constructor <;> intro s <;> rfl
theorem tame_orbHCut : Tame State.orbHCut := by constructor <;> intro s <;> rfl
theorem tame_orbVSent (c : Int) : Tame (State.orbVSent c) := by constructor <;> intro s <;> rfl
theorem tame_orbVCut : Tame State.orbVCut := by constructor <;> intro s <;> rfl

theorem lawful_plain (e : Event) : (Item.plain e).Lawful := ⟨tame_id, tame_id⟩

theorem lawful_powerLow : powerLow.Lawful := ⟨tame_panelLost, tame_id⟩

theorem lawful_txn (t : Transport) (bs : List Byte) {done cut : State → State} (hd : Tame done) (hc : Tame cut) :
    ∀ it ∈ txn t bs done cut, it.Lawful := by
  intro it hit
  simp only [txn, List.mem_append, List.mem_cons, List.mem_map, List.not_mem_nil, or_false] at hit
  rcases hit with ((rfl | rfl) | ⟨b, -, rfl⟩) | (rfl | rfl | rfl)
  all_goals first | exact ⟨tame_id, hc⟩ | exact ⟨hd, hc⟩

/-- Both state writes of a register word are tame. -/
def RegWrite.Lawful (r : RegWrite) : Prop := Tame r.done ∧ Tame r.cut

theorem lawful_writeRegisters (t : Transport) (rs : List RegWrite) (h : ∀ r ∈ rs, r.Lawful) :
    ∀ it ∈ writeRegisters t rs, it.Lawful := by
  induction rs with
  | nil => intro it hit; exact absurd hit List.not_mem_nil
  | cons r rs ih =>
    intro it hit
    rcases List.mem_append.1 hit with hit | hit
    · exact lawful_txn t _ (h r List.mem_cons_self).1 (h r List.mem_cons_self).2 it hit
    · exact ih (fun r' hr' => h r' (List.mem_cons_of_mem _ hr')) it hit

theorem lawful_regPlain (w : Word16) : (RegWrite.plain w).Lawful := ⟨tame_panelSent w, tame_panelCut w⟩

theorem lawful_initLines (p : Params) : ∀ it ∈ initLines p, it.Lawful := by
  intro it hit
  have hrst : Item.Lawful ⟨.setLine .rst .low, State.panelReset, id⟩ := ⟨tame_panelReset, tame_id⟩
  simp only [initLines, List.mem_append, List.mem_cons, List.not_mem_nil, or_false] at hit
  rcases hit with ((hit | hit) | hit) | hit
  · cases ht : p.transport <;> simp only [ht, List.mem_cons, List.not_mem_nil, or_false] at hit
    rcases hit with rfl | rfl <;> exact lawful_plain _
  · rcases hit with rfl | rfl
    · exact hrst
    · exact lawful_plain _
  · cases hp : p.hasPwr
    · simp [hp] at hit
    · simp only [hp, if_true, List.mem_cons, List.not_mem_nil, or_false] at hit
      exact hit ▸ lawful_powerLow
  · rcases hit with rfl | rfl | rfl | rfl | rfl <;> exact lawful_plain _

/-- Every state write of every command is tame. -/
theorem lawful_commandItems (p : Params) (i : Instr) : ∀ it ∈ commandItems p i, it.Lawful := by
  cases i with
  | init a b =>
    intro it hit
    rcases List.mem_append.1 hit with hit | hit
    · exact lawful_initLines p it hit
    · exact lawful_txn _ _ tame_panelInitialised tame_panelLost it hit
  | pon a b =>
    intro it hit
    rcases List.mem_append.1 hit with hit | hit
    · cases hp : p.hasPwr <;> simp only [hp, if_true, List.mem_cons, List.not_mem_nil, or_false] at hit
      · simp at hit
      · rcases hit with rfl | rfl <;> exact lawful_plain _
    · refine lawful_writeRegisters _ _ ?_ it hit
      intro r hr
      simp only [List.mem_cons, List.not_mem_nil, or_false] at hr
      rcases hr with rfl | rfl
      · exact lawful_regPlain _
      · exact ⟨(tame_panelSent _).comp tame_panelOn, tame_panelCut _⟩
  | poff a b =>
    intro it hit
    rcases List.mem_append.1 hit with hit | hit
    · refine lawful_writeRegisters _ _ ?_ it hit
      intro r hr
      simp only [List.mem_cons, List.not_mem_nil, or_false] at hr
      rcases hr with rfl | rfl
      · exact lawful_regPlain _
      · exact ⟨tame_panelOff.comp (tame_panelSent _), tame_panelCut _⟩
    · cases hp : p.hasPwr <;> simp only [hp, if_true, List.mem_cons, List.not_mem_nil, or_false] at hit
      · simp at hit
      · rcases hit with rfl | rfl
        · exact lawful_plain _
        · exact lawful_powerLow
  | lum n b =>
    refine lawful_writeRegisters _ _ ?_
    intro r hr
    simp only [List.mem_cons, List.not_mem_nil, or_false] at hr
    rcases hr with rfl | rfl
    · exact lawful_regPlain _
    · exact ⟨(tame_lumSent _).comp (tame_panelSent _), tame_lumCut.comp (tame_panelCut _)⟩
  | orb h v =>
    refine lawful_writeRegisters _ _ ?_
    intro r hr
    simp only [List.mem_cons, List.not_mem_nil, or_false] at hr
    rcases hr with rfl | rfl
    · exact ⟨(tame_orbHSent _).comp (tame_panelSent _), tame_orbHCut.comp (tame_panelCut _)⟩
    · exact ⟨(tame_orbVSent _).comp (tame_panelSent _), tame_orbVCut.comp (tame_panelCut _)⟩
  | probe a b =>
    refine lawful_writeRegisters _ _ ?_
    intro r hr
    obtain ⟨w, -, rfl⟩ := List.mem_map.1 hr
    exact ⟨tame_panelCut _, tame_panelCut _⟩

/-! ### `exec` -/

/-- Every command of the block runs its event list. -/
theorem exec_eq_runCommand (i : Instr) (s : State) (h : wellFormed s.params i = true) :
    exec i s = .next (runCommand (commandItems s.params i) s) := by
  cases i with
  | probe a b =>
    simp only [wellFormed] at h
    simp [exec, execProbe, h, commandItems]
  | _ => rfl

/-- PROBE without `HAS_PROBE` completes as ILLEGAL. -/
theorem exec_reserved (i : Instr) (s : State) (h : wellFormed s.params i = false) :
    exec i s = .next s.completeIllegal := by
  cases i with
  | probe a b =>
    simp only [wellFormed] at h
    simp [exec, execProbe, h]
  | _ => simp [wellFormed] at h

end Sys2Proof.Machine
end

