-- ==== Sys2Proof/Laws/Memory.lean ====
section
/-! SUPPORT. The panel image: what a read gives after each operation, and that every operation keeps the canonical form. -/

namespace Sys2Proof.Machine

theorem byte_eq_of_toNat_eq {a b : Byte} (h : a.toNat = b.toNat) : a = b := BitVec.eq_of_toNat_eq h

@[simp] theorem Memory.read_nil (a : Byte) : Memory.read [] a = none := rfl

theorem Memory.read_write_same (m : Memory) (a v : Byte) : (m.write a v).read a = some v := by
  induction m with
  | nil => simp [Memory.write, Memory.read]
  | cons c rest ih =>
    obtain ⟨k, u⟩ := c
    simp only [Memory.write]
    split
    · simp [Memory.read]
    · split
      · simp [Memory.read]
      · simp only [Memory.read]
        rw [if_neg (by omega)]
        exact ih

theorem Memory.read_write_other (m : Memory) {a b : Byte} (v : Byte) (h : b ≠ a) :
    (m.write a v).read b = m.read b := by
  have hn : a.toNat ≠ b.toNat := fun e => h (byte_eq_of_toNat_eq e.symm)
  induction m with
  | nil => simp [Memory.write, Memory.read, hn]
  | cons c rest ih =>
    obtain ⟨k, u⟩ := c
    simp only [Memory.write]
    split
    · simp [Memory.read, hn]
    · split
      · simp [Memory.read, hn, show k ≠ b.toNat by omega]
      · simp only [Memory.read]
        split
        · rfl
        · exact ih

theorem Memory.read_erase_same (m : Memory) (a : Byte) : (m.erase a).read a = none := by
  induction m with
  | nil => rfl
  | cons c rest ih =>
    obtain ⟨k, u⟩ := c
    simp only [Memory.erase]
    split
    · exact ih
    · next hk => simp [Memory.read, hk, ih]

theorem Memory.read_erase_other (m : Memory) {a b : Byte} (h : b ≠ a) : (m.erase a).read b = m.read b := by
  have hn : a.toNat ≠ b.toNat := fun e => h (byte_eq_of_toNat_eq e.symm)
  induction m with
  | nil => rfl
  | cons c rest ih =>
    obtain ⟨k, u⟩ := c
    simp only [Memory.erase]
    split
    · next hk => simp [Memory.read, ih, show k ≠ b.toNat by omega]
    · simp only [Memory.read]
      split
      · rfl
      · exact ih

/-- What a read gives after a register was set to a value or to `⊥`. -/
theorem Memory.read_set (m : Memory) (a b : Byte) (v : Option Byte) :
    (m.set a v).read b = if b = a then v else m.read b := by
  split
  · next h =>
    subst h
    cases v with
    | none => exact m.read_erase_same _
    | some v => exact m.read_write_same _ v
  · next h =>
    cases v with
    | none => exact m.read_erase_other h
    | some v => exact m.read_write_other v h

theorem Memory.mem_write {m : Memory} {a v : Byte} {c : Host.Cell} (h : c ∈ m.write a v) :
    c = (a.toNat, v) ∨ c ∈ m := by
  induction m with
  | nil => exact .inl (by simpa only [Memory.write, List.mem_singleton] using h)
  | cons d rest ih =>
    obtain ⟨k, u⟩ := d
    simp only [Memory.write] at h
    split at h
    · simpa using h
    · split at h
      · rcases List.mem_cons.1 h with h | h
        · exact .inl h
        · exact .inr (List.mem_cons_of_mem _ h)
      · rcases List.mem_cons.1 h with h | h
        · exact .inr (h ▸ List.mem_cons_self)
        · exact (ih h).imp_right (List.mem_cons_of_mem _)

theorem Memory.mem_erase {m : Memory} {a : Byte} {c : Host.Cell} (h : c ∈ m.erase a) : c ∈ m := by
  induction m with
  | nil => exact h
  | cons d rest ih =>
    obtain ⟨k, u⟩ := d
    simp only [Memory.erase] at h
    split at h
    · exact List.mem_cons_of_mem _ (ih h)
    · rcases List.mem_cons.1 h with h | h
      · exact h ▸ List.mem_cons_self
      · exact List.mem_cons_of_mem _ (ih h)

theorem Memory.wf_write {m : Memory} (hm : m.wf) (a v : Byte) : (m.write a v).wf := by
  have ha : a.toNat < 256 := a.isLt
  refine ⟨?_, fun c hc => (Memory.mem_write hc).elim (fun h => h ▸ ha) (hm.2 c)⟩
  obtain ⟨hs, -⟩ := hm
  induction m with
  | nil => simp [Memory.write]
  | cons d rest ih =>
    obtain ⟨k, u⟩ := d
    obtain ⟨hk, hrest⟩ := List.pairwise_cons.1 hs
    simp only [Memory.write]
    split
    · next hlt =>
      refine List.pairwise_cons.2 ⟨fun c hc => ?_, hs⟩
      rcases List.mem_cons.1 hc with h | h
      · exact h ▸ hlt
      · exact Nat.lt_trans hlt (hk c h)
    · split
      · next heq => exact List.pairwise_cons.2 ⟨fun c hc => heq ▸ hk c hc, hrest⟩
      · refine List.pairwise_cons.2 ⟨fun c hc => ?_, ih hrest⟩
        rcases Memory.mem_write hc with h | h
        · subst h
          exact show k < a.toNat by omega
        · exact hk c h

theorem Memory.wf_erase {m : Memory} (hm : m.wf) (a : Byte) : (m.erase a).wf := by
  refine ⟨?_, fun c hc => hm.2 c (Memory.mem_erase hc)⟩
  obtain ⟨hs, -⟩ := hm
  induction m with
  | nil => simp [Memory.erase]
  | cons d rest ih =>
    obtain ⟨k, u⟩ := d
    obtain ⟨hk, hrest⟩ := List.pairwise_cons.1 hs
    simp only [Memory.erase]
    split
    · exact ih hrest
    · exact List.pairwise_cons.2 ⟨fun c hc => hk c (Memory.mem_erase hc), ih hrest⟩

theorem Memory.wf_set {m : Memory} (hm : m.wf) (a : Byte) (v : Option Byte) : (m.set a v).wf := by
  cases v with
  | none => exact Memory.wf_erase hm a
  | some v => exact Memory.wf_write hm a v

theorem Memory.wf_nil : Memory.wf [] := ⟨List.Pairwise.nil, fun _ h => absurd h (List.not_mem_nil)⟩

theorem Memory.wf_burstImage (pairs : Option (List (Byte × Byte))) : (burstImage pairs).wf := by
  cases pairs with
  | none => exact Memory.wf_nil
  | some ps =>
    have h : ∀ (l : List (Byte × Byte)) (m : Memory), m.wf →
        Memory.wf (l.foldl (fun m p => Memory.write m p.1 p.2) m) := by
      intro l
      induction l with
      | nil => exact fun m hm => hm
      | cons p rest ih => exact fun m hm => ih _ (Memory.wf_write hm _ _)
    exact h ps [] Memory.wf_nil

end Sys2Proof.Machine
end

