-- ==== Sys2Proof/Laws/Words.lean ====
section
/-! SUPPORT. The fields of command words and register words. -/

namespace Sys2Proof

@[simp] theorem opField_cmdWord (op a b : Byte) : opField (cmdWord op a b) = op := by
  apply BitVec.eq_of_getLsbD_eq
  intro i hi
  simp only [opField, cmdWord, BitVec.getLsbD_extractLsb', BitVec.getLsbD_append, hi, decide_true, Bool.true_and]
  simp [show ¬ 16 + i < 8 by omega, show ¬ 16 + i - 8 < 8 by omega, show 16 + i - 8 - 8 = i by omega]

@[simp] theorem aField_cmdWord (op a b : Byte) : aField (cmdWord op a b) = a := by
  apply BitVec.eq_of_getLsbD_eq
  intro i hi
  simp only [aField, cmdWord, BitVec.getLsbD_extractLsb', BitVec.getLsbD_append, hi, decide_true, Bool.true_and]
  simp [show ¬ 8 + i < 8 by omega, show 8 + i - 8 = i by omega, hi]

@[simp] theorem bField_cmdWord (op a b : Byte) : bField (cmdWord op a b) = b := by
  apply BitVec.eq_of_getLsbD_eq
  intro i hi
  simp only [bField, cmdWord, BitVec.getLsbD_extractLsb', BitVec.getLsbD_append, hi, decide_true, Bool.true_and]
  simp [hi]

/-- A command word is made of its three fields. -/
theorem cmdWord_fields (w : CmdWord) : cmdWord (opField w) (aField w) (bField w) = w := by
  apply BitVec.eq_of_getLsbD_eq
  intro i hi
  simp only [cmdWord, opField, aField, bField, BitVec.getLsbD_append, BitVec.getLsbD_extractLsb']
  split
  · next h => simp [h]
  · split
    · next h1 h2 => simp [h2, show 8 + (i - 8) = i by omega]
    · next h1 h2 => simp [show i - 8 - 8 < 8 by omega, show 16 + (i - 8 - 8) = i by omega]

namespace Machine

@[simp] theorem addrByte_registerWord (a v : Byte) : addrByte (registerWord a v) = a := by
  apply BitVec.eq_of_getLsbD_eq
  intro i hi
  simp only [addrByte, registerWord, BitVec.getLsbD_extractLsb', BitVec.getLsbD_append, hi, decide_true, Bool.true_and]
  simp [show ¬ 8 + i < 8 by omega, show 8 + i - 8 = i by omega, hi]

@[simp] theorem valByte_registerWord (a v : Byte) : valByte (registerWord a v) = v := by
  apply BitVec.eq_of_getLsbD_eq
  intro i hi
  simp only [valByte, registerWord, BitVec.getLsbD_extractLsb', BitVec.getLsbD_append, hi, decide_true, Bool.true_and]
  simp [hi]

@[simp] theorem addrByte_modeSelectWord : addrByte modeSelectWord = 0x00 := by decide
@[simp] theorem valByte_modeSelectWord : valByte modeSelectWord = 0x4D := by decide
@[simp] theorem addrByte_confirmOnWord : addrByte confirmOnWord = 0x00 := by decide
@[simp] theorem valByte_confirmOnWord : valByte confirmOnWord = 0x4F := by decide
@[simp] theorem addrByte_confirmOffWord : addrByte confirmOffWord = 0x00 := by decide
@[simp] theorem valByte_confirmOffWord : valByte confirmOffWord = 0x4C := by decide

/-- `clamp` always lands in its range (R150). -/
theorem clamp_mem (x : Int) {lo hi : Int} (h : lo ≤ hi) : lo ≤ clamp x lo hi ∧ clamp x lo hi ≤ hi := by
  unfold clamp
  split
  · exact ⟨le_refl _, h⟩
  · split <;> omega

theorem lumValue_mem (n : Byte) : 5 ≤ lumValue n ∧ lumValue n ≤ 100 := by
  have := clamp_mem (u8 n) (lo := lumMin) (hi := lumMax) (by decide)
  simp only [lumMin, lumMax] at this
  simp only [lumValue, lumMin, lumMax]
  omega

theorem orbValue_mem (b : Byte) : -10 ≤ orbValue b ∧ orbValue b ≤ 10 :=
  clamp_mem (s8 b) (lo := orbMin) (hi := orbMax) (by decide)

end Machine

end Sys2Proof
end

