-- ==== Sys2Proof/Laws/PerInstr.lean ====
section
/-! SUPPORT. Statements about every command as syntax, one lemma for each constructor. -/

/-- The field `op` of a command's word is the command's opcode, one of 1 to 6 (spec 30_encoding.md R75). -/
def Sys2Proof.Laws.OpcodeField.Statement (i : Sys2Proof.Instr) : Prop :=
  Sys2Proof.opField (Sys2Proof.encode i) = Sys2Proof.opcode i ∧
    1 ≤ (Sys2Proof.opcode i).toNat ∧ (Sys2Proof.opcode i).toNat ≤ 6

theorem Sys2Proof.Laws.OpcodeField.init (a b : Sys2Proof.Byte) :
    Sys2Proof.Laws.OpcodeField.Statement (.init a b) :=
  ⟨Sys2Proof.opField_cmdWord _ _ _, Nat.le_of_ble_eq_true rfl, Nat.le_of_ble_eq_true rfl⟩

theorem Sys2Proof.Laws.OpcodeField.pon (a b : Sys2Proof.Byte) :
    Sys2Proof.Laws.OpcodeField.Statement (.pon a b) :=
  ⟨Sys2Proof.opField_cmdWord _ _ _, Nat.le_of_ble_eq_true rfl, Nat.le_of_ble_eq_true rfl⟩

theorem Sys2Proof.Laws.OpcodeField.poff (a b : Sys2Proof.Byte) :
    Sys2Proof.Laws.OpcodeField.Statement (.poff a b) :=
  ⟨Sys2Proof.opField_cmdWord _ _ _, Nat.le_of_ble_eq_true rfl, Nat.le_of_ble_eq_true rfl⟩

theorem Sys2Proof.Laws.OpcodeField.lum (n b : Sys2Proof.Byte) :
    Sys2Proof.Laws.OpcodeField.Statement (.lum n b) :=
  ⟨Sys2Proof.opField_cmdWord _ _ _, Nat.le_of_ble_eq_true rfl, Nat.le_of_ble_eq_true rfl⟩

theorem Sys2Proof.Laws.OpcodeField.orb (h v : Sys2Proof.Byte) :
    Sys2Proof.Laws.OpcodeField.Statement (.orb h v) :=
  ⟨Sys2Proof.opField_cmdWord _ _ _, Nat.le_of_ble_eq_true rfl, Nat.le_of_ble_eq_true rfl⟩

theorem Sys2Proof.Laws.OpcodeField.probe (a b : Sys2Proof.Byte) :
    Sys2Proof.Laws.OpcodeField.Statement (.probe a b) :=
  ⟨Sys2Proof.opField_cmdWord _ _ _, Nat.le_of_ble_eq_true rfl, Nat.le_of_ble_eq_true rfl⟩
end

