-- ==== Sys2Proof/Laws/Step.lean ====
section
/-! SUPPORT. What one step can do, said once: the provers' case analysis of `step`. -/

namespace Sys2Proof.Machine

/-- The state a step works on while no word is accepted: `done` has ended, and the host's move `pass` has been used. -/
def QuietFrom (s u : State) : Prop := u = s.clearDone ∨ u = s.clearDone.popHost

/-- A step that carries on the command in flight. -/
theorem carryOn_next {s u t : State} (hu : QuietFrom s u)
    (h : (match carryOn u with
      | .settle t => .next t
      | .run i t => exec i t
      | .stop r => .fault r) = Host.Outcome.next t) :
    ∃ i, s.command = some i ∧ exec i u = .next t := by
  have hc : u.command = s.command := by rcases hu with rfl | rfl <;> rfl
  rw [carryOn, hc] at h
  cases hs : s.command with
  | none => rw [hs] at h; cases h
  | some i => rw [hs] at h; exact ⟨i, rfl, h⟩

/-- A step that goes on to a next state is one of these: block reset; a step of an idle block that accepts nothing; the
command in flight carried on; a command accepted and run; a reserved word accepted and completed. -/
theorem step_cases {s t : State} (hs : step s = .next t) :
    (∃ rest, s.host = .rst :: rest ∧ t = s.popHost.blockReset) ∨
    (∃ u, QuietFrom s u ∧ s.busy = false ∧ t = u) ∨
    (∃ u i, QuietFrom s u ∧ s.busy = true ∧ s.command = some i ∧ exec i u = .next t) ∨
    (∃ w rest i, s.host = .present w :: rest ∧ s.busy = false ∧ decode w = .ok i ∧
      exec i (s.clearDone.popHost.accept w) = .next t) ∨
    (∃ w rest op, s.host = .present w :: rest ∧ s.busy = false ∧ decode w = .error op ∧
      t = (s.clearDone.popHost.accept w).completeIllegal) := by
  have hquiet : ∀ u, QuietFrom s u → (match quiet u with
        | .settle t => .next t
        | .run i t => exec i t
        | .stop r => .fault r) = Host.Outcome.next t →
      (∃ u, QuietFrom s u ∧ s.busy = false ∧ t = u) ∨
      (∃ u i, QuietFrom s u ∧ s.busy = true ∧ s.command = some i ∧ exec i u = .next t) := by
    intro u hu hx
    have hub : u.busy = s.busy := by rcases hu with rfl | rfl <;> rfl
    rw [quiet, hub] at hx
    cases hb : s.busy with
    | false =>
      rw [hb] at hx
      cases hx
      exact .inl ⟨t, hu, rfl, rfl⟩
    | true =>
      rw [hb] at hx
      obtain ⟨i, hi, he⟩ := carryOn_next hu hx
      exact .inr ⟨u, i, hu, rfl, hi, he⟩
  unfold step select at hs
  cases hh : s.host with
  | nil =>
    rw [hh] at hs
    rcases hquiet _ (.inl rfl) hs with h | h
    · exact .inr (.inl h)
    · exact .inr (.inr (.inl h))
  | cons m rest =>
    rw [hh] at hs
    cases m with
    | pass =>
      rcases hquiet _ (.inr rfl) hs with h | h
      · exact .inr (.inl h)
      · exact .inr (.inr (.inl h))
    | rst =>
      cases hs
      exact .inl ⟨rest, rfl, rfl⟩
    | present w =>
      cases hb : s.busy with
      | true =>
        rw [hb] at hs
        obtain ⟨i, hi, he⟩ := carryOn_next (.inl rfl) hs
        exact .inr (.inr (.inl ⟨_, i, .inl rfl, rfl, hi, he⟩))
      | false =>
        rw [hb] at hs
        simp only [take] at hs
        cases hd : decode w with
        | ok i =>
          rw [hd] at hs
          exact .inr (.inr (.inr (.inl ⟨w, rest, i, rfl, rfl, hd, hs⟩)))
        | error op =>
          rw [hd] at hs
          cases hs
          exact .inr (.inr (.inr (.inr ⟨w, rest, op, rfl, rfl, hd, rfl⟩)))

end Sys2Proof.Machine
end

