-- ==== Sys2Proof/Laws/Wave.lean ====
section
/-! SUPPORT. The waveform of a byte: sampling and levels over events one after another, and what the constraint on `SHIFT`
says of every byte. -/

namespace Sys2Proof.Machine

theorem clockAfter_append (clk : Level) (xs ys : List ShiftEvent) :
    clockAfter clk (xs ++ ys) = clockAfter (clockAfter clk xs) ys := by
  induction xs generalizing clk with
  | nil => rfl
  | cons x xs ih =>
    obtain ⟨line, level⟩ := x
    cases line <;> exact ih _

/-- The level of DATA after these events, as `samples` follows it. -/
def dataAfter : Option Level → List ShiftEvent → Option Level
  | data, [] => data
  | _, ⟨.data, level⟩ :: es => dataAfter (some level) es
  | data, ⟨.clk, _⟩ :: es => dataAfter data es

theorem samples_append (edge : Level) (data : Option Level) (clk : Level) (xs ys : List ShiftEvent) :
    samples edge data clk (xs ++ ys) =
      samples edge data clk xs ++ samples edge (dataAfter data xs) (clockAfter clk xs) ys := by
  induction xs generalizing data clk with
  | nil => rfl
  | cons x xs ih =>
    obtain ⟨line, level⟩ := x
    cases line with
    | data => exact ih _ _
    | clk =>
      simp only [List.cons_append, samples, dataAfter, clockAfter, ih]
      split <;> rfl

/-- Samples that are all known do not depend on the level DATA had before. -/
theorem samples_known (edge : Level) (data : Option Level) (clk : Level) (es : List ShiftEvent)
    (h : none ∉ samples edge none clk es) : samples edge data clk es = samples edge none clk es := by
  induction es generalizing clk with
  | nil => rfl
  | cons x es ih =>
    obtain ⟨line, level⟩ := x
    cases line with
    | data => rfl
    | clk =>
      simp only [samples] at h ⊢
      split
      · next hc => simp [hc] at h
      · next hc => exact ih _ (by simpa [hc] using h)

/-- What the constraint R106 says of the events of each byte. -/
theorem shiftTableOk_byte {idle edge : Level} {table : List (List ShiftEvent)} (h : shiftTableOk idle edge table = true)
    (b : Byte) : ∃ es, table[b.toNat]? = some es ∧ samples edge none idle es = byteLevels b ∧ clockAfter idle es = idle := by
  have hb := List.all_eq_true.1 h b.toNat (List.mem_range.2 b.isLt)
  cases he : table[b.toNat]? with
  | none => simp [he] at hb
  | some es =>
    refine ⟨es, rfl, ?_⟩
    simpa [he, shiftByteOk] using hb

/-- A given `SHIFT` of constructible parameters belongs to the bit-banged Transport and has one idle level and one edge. -/
theorem shift_of_wf {p : Params} {table : List (List ShiftEvent)} (hp : p.wf = true) (hs : p.shift = some table) :
    p.transport = .bitbang ∧ ∃ idle edge, shiftTableOk idle edge table = true := by
  simp only [Params.wf, Params.shiftWf, hs, shiftOk, Bool.and_eq_true, Bool.or_eq_true, beq_iff_eq] at hp
  obtain ⟨-, ht, -, ((h | h) | h) | h⟩ := hp
  all_goals exact ⟨ht, _, _, h⟩

theorem levelAfterShift_append (id : LineId) (before : Option Level) (xs ys : List ShiftEvent) :
    levelAfterShift id before (xs ++ ys) = levelAfterShift id (levelAfterShift id before xs) ys := by
  induction xs generalizing before with
  | nil => rfl
  | cons x xs ih => exact ih _

/-- Events of a byte that do not drive a line leave its level. -/
theorem levelAfterShift_other {id : LineId} (before : Option Level) {xs : List ShiftEvent}
    (h : ∀ x ∈ xs, shiftLineId x.line ≠ id) : levelAfterShift id before xs = before := by
  induction xs generalizing before with
  | nil => rfl
  | cons x xs ih =>
    simp only [levelAfterShift, h x List.mem_cons_self, if_false]
    exact ih _ fun y hy => h y (List.mem_cons_of_mem _ hy)

theorem waveform_append (p : Params) (xs ys : List Event) :
    waveform p (xs ++ ys) = (waveform p xs).bind fun a => (waveform p ys).map (a ++ ·) := by
  induction xs with
  | nil => simp [waveform]
  | cons e xs ih =>
    cases e with
    | setLine id level => simpa [waveform] using ih
    | wait d => simpa [waveform] using ih
    | xfer b =>
      simp only [List.cons_append, waveform, ih]
      cases shiftOf p b <;> cases waveform p xs <;> cases waveform p ys <;> simp

theorem State.wireLevel_acknowledge (s : State) (e : Event) (r : Reply) (id : LineId) :
    (s.acknowledge e r).wireLevel id = levelAfter s.params id (s.wireLevel id) ⟨e, r⟩ := by
  simp [State.wireLevel, State.acknowledge, State.popAnswer]

end Sys2Proof.Machine
end

