-- ==== Sys2Proof/Tests/Slice0.lean ====
section
/-! SUPPORT. Tests with results from outside the model (the vectors of spec 95_test_vectors.md, each named), and for every
obligation with hypotheses a witness that meets all of them together. -/

namespace Sys2Proof.Tests

open Sys2Proof.Machine

/-! ### Ill-formed terms are refused (R7, R76) -/

theorem test_probe_needs_bitbang : { Params.chosen with transport := .hwspi, hasProbe := true }.wf = false := by decide
theorem test_table_not_empty : { Params.chosen with initTable := [] }.wf = false := by decide
theorem test_probe_refused_without_has_probe : wellFormed Params.chosen (.probe 0 0) = false := by decide
theorem test_chosen_well_formed : Params.chosen.wf = true := by decide

/-- A `SHIFT` of the test's own: the clock idles low, DATA is set before each rising edge, most significant bit first. -/
def bitWave (x : Bool) : List ShiftEvent := [⟨.data, bitLevel x⟩, ⟨.clk, .high⟩, ⟨.clk, .low⟩]
def testShift : List (List ShiftEvent) :=
  (List.range 256).map fun (n : Nat) => ([7, 6, 5, 4, 3, 2, 1, 0].map fun k => bitWave (n.testBit k)).flatten
def shifting : Params := { Params.chosen with shift := some testShift }

theorem test_shift_well_formed : shifting.wf = true := by decide +kernel
/-- R7: "BB only". -/
theorem test_shift_needs_bitbang : { shifting with transport := .hwspi }.wf = false := by decide +kernel
/-- R106: the bits reversed, and a table that is too short. -/
theorem test_shift_refused :
    { shifting with shift := some ((List.range 256).map fun (n : Nat) =>
      ([0, 1, 2, 3, 4, 5, 6, 7].map fun k => bitWave (n.testBit k)).flatten) }.wf = false ∧
    { shifting with shift := some [[]] }.wf = false := by decide +kernel

/-! ### Decoding: one word for each command, bit by bit from R70 and R75, with the operands of V1 -/

theorem test_decode_init : decode 0b00000001_11111111_11111111#24 = .ok (.init 255 255) := by rfl
theorem test_decode_pon : decode 0b00000010_10100101_01011010#24 = .ok (.pon 165 90) := by rfl
theorem test_decode_poff : decode 0b00000011_00000000_00000001#24 = .ok (.poff 0 1) := by rfl
theorem test_decode_lum : decode 0b00000100_10010110_11111111#24 = .ok (.lum 150 255) := by rfl
theorem test_decode_orb : decode 0b00000101_00001111_11101100#24 = .ok (.orb 15 236) := by rfl
theorem test_decode_probe : decode 0b00000110_00000000_00000000#24 = .ok (.probe 0 0) := by rfl
theorem test_decode_reserved : decode 0x000000 = .error (.reservedOpcode 0) ∧ decode 0x070000 = .error (.reservedOpcode 7) ∧
    decode 0x800000 = .error (.reservedOpcode 0x80) ∧ decode 0xFF1234 = .error (.reservedOpcode 0xFF) := by
  refine ⟨?_, ?_, ?_, ?_⟩ <;> rfl
theorem test_table_word : decodeTableWord 24 0x050FEC = some (.orb 0x0F 0xEC) := by decide

/-! ### Small states -/

/-- The block after reset, constructed with these parameters. -/
def block (p : Params) : State := { State.reset with params := p }

/-- The block in ACTIVE after INIT, its shadows as INIT leaves them (the start of V7, V8 and V10). -/
def active (p : Params) : State :=
  { block p with pstate := .active, lum := some 15, orbH := some 0, orbV := some 0, panelKnown := true,
                 lines := { Lines.unknown with rst := some .high, cs := some .high } }

def bb : Params := Params.chosen
def bbPwr : Params := { bb with hasPwr := true }
def hw : Params := { bb with transport := .hwspi }
def hwPwr : Params := { hw with hasPwr := true }
def faulty : Params := { bb with transportFaults := true }
def probing : Params := { bb with hasProbe := true, probeWords := ⟨0x8001, 0x8113, 0x8201, 0x8000⟩ }

/-- The state after one step in which the host presents this word. -/
def send (w : CmdWord) (s : State) : Option State :=
  match step { s with host := [.present w] } with
  | .next t => some t
  | .fault _ => none
  | .refused _ => none

/-- The Transport acknowledges this many events, then does this, then acknowledges everything. -/
def answering (n : Nat) (a : List Answer) (s : State) : State :=
  { s with answers := List.replicate n (.ack false none) ++ a }

/-- The events of the trace, with what was acknowledged. -/
def traceOf (w : CmdWord) (s : State) : Option (List TraceEntry) := (send w s).map State.trace

/-- The part of a state that the tables of V5 to V11 give. -/
structure View where
  pstate : PState
  lum : Option Nat
  orbH : Option Int
  orbV : Option Int
  status : Status
  faultSeen : Bool
deriving DecidableEq

def view (s : State) : View := ⟨s.pstate, s.lum, s.orbH, s.orbV, s.status, s.faultSeen⟩

def ok (e : Event) : TraceEntry := ⟨e, .ok⟩

/-- `writeWord` as V2 writes it for BB and for HW. -/
def wordBB (a v : Byte) : List TraceEntry :=
  [ok (.setLine .cs .low), ok (.wait 200), ok (.xfer a), ok (.xfer v), ok (.wait 200), ok (.setLine .cs .high), ok (.wait 200)]
def wordHW (a v : Byte) : List TraceEntry :=
  [ok (.setLine .cs .low), ok (.wait 1), ok (.xfer a), ok (.xfer v), ok (.wait 1), ok (.setLine .cs .high), ok (.wait 1000)]

/-! ### One step each -/

/-- V5, BB. -/
theorem test_init_bb : traceOf 0x010000 (block bb) = some
    [ok (.setLine .data .low), ok (.setLine .clk .low), ok (.setLine .rst .low), ok (.setLine .cs .high), ok (.wait 16000),
     ok (.setLine .rst .low), ok (.wait 16000), ok (.setLine .rst .high), ok (.wait 16000), ok (.setLine .cs .low),
     ok (.wait 200), ok (.xfer 0xA1), ok (.xfer 0xB2), ok (.xfer 0xC3), ok (.wait 200), ok (.setLine .cs .high),
     ok (.wait 200)] := by decide

/-- V5, HW+PWR: the end state. -/
theorem test_init_hw_pwr : (send 0x010000 (block hwPwr)).map (fun t => (view t, t.lines)) =
    some (⟨.active, some 15, some 0, some 0, .ok, false⟩, ⟨none, none, some .high, some .high, some .low⟩) := by decide

/-- V6, BB+PWR. -/
theorem test_pon_bb_pwr : traceOf 0x020000 (active bbPwr) =
    some ([ok (.setLine .pwr .high), ok (.wait 16000)] ++ wordBB 0x00 0x4D ++ wordBB 0x00 0x4F) := by decide

/-- V9: PON in POWERSAVE. -/
theorem test_pon_powersave :
    (send 0x020000 { active bb with pstate := .powersave, lum := some 40, orbH := some 3, orbV := some (-2) }).map view =
    some ⟨.active, some 40, some 3, some (-2), .ok, false⟩ := by decide

/-- V6, HW+PWR. -/
theorem test_poff_hw_pwr : traceOf 0x030000 (active hwPwr) =
    some (wordHW 0x00 0x4D ++ wordHW 0x00 0x4C ++ [ok (.wait 16000), ok (.setLine .pwr .low)]) := by decide

/-- F13: a fault at POFF's last event, after `pstate` has moved. -/
theorem test_poff_late_fault :
    (send 0x030000 (answering 15 [.ack true none] (active { hwPwr with transportFaults := true }))).map
      (fun t => (view t, t.lines.pwr)) = some (⟨.powersave, some 15, some 0, some 0, .fault, true⟩, none) := by decide

/-- V7: LUM 150, and the panel image after it. -/
theorem test_lum_150 : (send 0x0496FF (active bb)).map
      (fun t => (t.trace, view t, t.preg.read 0x11, t.preg.read 0x13)) =
    some (wordBB 0x11 0x07 ++ wordBB 0x13 0x64, ⟨.active, some 100, some 0, some 0, .ok, false⟩, some 0x07, some 0x64) := by
  decide

/-- F2: a fault at event 11 of LUM 50. -/
theorem test_lum_fault : (send 0x043200 (answering 10 [.ack true none] (active faulty))).map (fun t => (t.trace, view t)) =
    some (wordBB 0x11 0x07 ++ [ok (.setLine .cs .low), ok (.wait 200), ok (.xfer 0x13), ⟨.xfer 0x32, .fault⟩,
      ok (.setLine .cs .high), ok (.wait 200)], ⟨.active, none, some 0, some 0, .fault, true⟩) := by decide

/-- V7: ORB 15, -20, and the panel image after it. -/
theorem test_orb_15_m20 : (send 0x050FEC (active hw)).map
      (fun t => (t.trace, view t, t.preg.read 0x02, t.preg.read 0x03)) =
    some (wordHW 0x02 0x0A ++ wordHW 0x03 0xF6, ⟨.active, some 15, some 10, some (-10), .ok, false⟩, some 0x0A, some 0xF6) := by
  decide

/-- F7: a fault at event 10 of ORB 15, -20. -/
theorem test_orb_fault : (send 0x050FEC (answering 9 [.ack true none] (active faulty))).map view =
    some ⟨.active, some 15, some 10, none, .fault, true⟩ := by decide

/-- V8, with words of the test's own: bytes in order. -/
theorem test_probe : traceOf 0x060000 (active probing) =
    some (wordBB 0x80 0x01 ++ wordBB 0x81 0x13 ++ wordBB 0x82 0x01 ++ wordBB 0x80 0x00) := by decide

/-- P5: PROBE without `HAS_PROBE`. -/
theorem test_probe_reserved : (send 0x060000 (block bb)).map (fun t => (view t, t.trace)) =
    some (⟨.uninit, none, none, none, .illegal, false⟩, []) := by decide

/-- V3: the operand is unsigned, and clamped at both ends. -/
theorem test_luminance_words : encodeLuminance 3 = [0x1107, 0x1305] ∧ encodeLuminance 0x80 = [0x1107, 0x1364] := by decide

/-- V4: each word from its own operand (R149). -/
theorem test_orbit_words : encodeOrbit 0x05 0xFB = [0x0205, 0x03FB] ∧ encodeOrbit 0x80 0x7F = [0x02F6, 0x038A] := by decide

/-- E10: the bits of `0x13` on the data line. -/
theorem test_wire_bits : wireBits (.xfer 0x13) = [false, false, false, true, false, false, true, true] := by decide

/-- F5: the abort procedure's own `SetLine(CS,1)` faults too. -/
theorem test_abort_fault_ignored :
    (send 0x043200 (answering 9 [.ack true none, .ack true none] (active faulty))).map (fun t => (t.lines.cs, t.status, t.busy)) =
    some (none, .fault, false) := by decide

/-- F17: event 3 of a LUM is never acknowledged. -/
theorem test_stuck :
    (send 0x043200 { answering 2 [] (active bb) with answerRest := .hold }).map
      (fun t => (t.emitted, t.busy, t.status, t.lines.cs)) =
    some ([.setLine .cs .low, .wait 200, .xfer 0x11], true, .ok, some .low) := by decide

/-- The host's row check: the first instruction after reset. -/
theorem test_fetch_word : step (State.reset.withFetchWord 24 0x049600) =
    exec (.lum 0x96 0) { State.reset with op := some 4, argA := some 0x96, argB := some 0, busy := true, seq := .running 0 } := by
  rfl

/-! ### Witnesses: the hypotheses of each obligation can be met together -/

/-- A LUM 50 in ACTIVE whose third event the Transport has not acknowledged, in a block with `HAS_PWR` on HW. -/
def midLum : State :=
  { active hwPwr with
    op := some 0x04, argA := some 50, argB := some 0, busy := true, seq := .running 2, port := some (.xfer 0x11),
    trace := [ok (.setLine .cs .low), ok (.wait 1)], lines := ⟨none, none, some .high, some .low, some .high⟩ }

/-- The events this command emits in this block. -/
def fires (p : Params) (i : Instr) (k : Nat) : Option Event := (commandEvents p i)[k]?

theorem witness_BlockResetAtAnyTime : ∃ (s : State) (rest : List HostMove), s.host = .rst :: rest ∧ s.busy = true :=
  ⟨{ midLum with host := [.rst] }, [], rfl, rfl⟩

theorem witness_StepRunsThePresentedCommand : ∃ (s : State) (w : CmdWord) (rest : List HostMove) (i : Instr),
    s.busy = false ∧ s.host = .present w :: rest ∧ decode w = .ok i :=
  ⟨{ block bb with host := [.present 0x050FEC] }, 0x050FEC, [], .orb 0x0F 0xEC, rfl, rfl, rfl⟩

theorem witness_StepCarriesOnTheCommandInFlight : ∃ (s : State) (i : Instr), s.busy = true ∧ s.command = some i ∧
    s.host = [] ∧ { s with host := [.pass] }.host = .pass :: [] ∧
    { s with host := [.present 0] }.host = .present 0 :: [] :=
  ⟨midLum, .lum 50 0, rfl, rfl, rfl, rfl, rfl⟩

theorem witness_IdleStepOnlyEndsDone : (block bb).busy = false ∧ (block bb).host = [] ∧
    { block bb with host := [.pass] }.host = .pass :: [] := ⟨rfl, rfl, rfl⟩

/-- One word for each of the three clauses, at the boundaries of their ranges. -/
theorem witness_ReservedOpcodeCompletesIllegal : (block bb).busy = false ∧ (block bb).params.hasProbe = false ∧
    (BitVec.extractLsb' 16 8 (0x00FFFF : CmdWord)).toNat = 0 ∧ 7 ≤ (BitVec.extractLsb' 16 8 (0x070000 : CmdWord)).toNat ∧
    7 ≤ (BitVec.extractLsb' 16 8 (0xFF0000 : CmdWord)).toNat ∧
    (BitVec.extractLsb' 16 8 (0x060000 : CmdWord)).toNat = 6 := by decide

/-- Whatever a step answers on this state is a next state. -/
def nextOf (o : Host.Outcome State Fault Refusal) : Option State :=
  match o with
  | .next t => some t
  | .fault _ => none
  | .refused _ => none

theorem nextOf_eq {o : Host.Outcome State Fault Refusal} (h : (nextOf o).isSome = true) : ∃ t, o = .next t := by
  cases o with
  | next t => exact ⟨t, rfl⟩
  | fault r => cases h
  | refused r => cases h

theorem witness_BusyBlockAcceptsNothing : ∃ (s t : State) (w : CmdWord) (rest : List HostMove), s.busy = true ∧
    s.host = .present w :: rest ∧ step s = .next t := by
  obtain ⟨t, ht⟩ := nextOf_eq (o := step { midLum with host := [.present 0x010000] }) (by decide)
  exact ⟨_, t, 0x010000, [], rfl, rfl, ht⟩

theorem witness_DecodeAndEncodeAgree : decode 0x049600 = .ok (.lum 0x96 0) := by rfl

theorem witness_WhichEventsCanFault : (block bb).answer = .ack false none ∧ (block bb).params.transportFaults = false ∧
    (answering 0 [.ack true (some 7)] (block faulty)).answer = .ack true (some 7) ∧
    (block faulty).params.transportFaults = true := by decide

/-- A line other than the one driven; a line at its latch's level; a transfer without `SHIFT`, with it, and on HW. -/
theorem witness_SetLineWritesItsLatch : LineId.rst ≠ LineId.cs ∧ LineId.cs ≠ .data ∧ LineId.cs ≠ .clk ∧
    (block bb).wireLevel .cs = (block bb).lines.get .cs ∧ bb.transport = .bitbang ∧ shiftOf bb 0x13 = none ∧
    shifting.transport = .bitbang ∧ (shiftOf shifting 0x13) =
      some (([false, false, false, true, false, false, true].map bitWave).flatten ++
        ⟨.data, .high⟩ :: [⟨.clk, .high⟩] ++ ⟨.clk, .low⟩ :: []) ∧ shiftLineId .clk ≠ LineId.data ∧
    hw.transport = .hwspi := by decide +kernel

/-- Two blocks that differ in every field the events do not depend on. -/
theorem witness_EventsDependOnCommandAndParametersAlone : ∃ s u : State, u.params = s.params ∧ u.answers = s.answers ∧
    u.answerRest = s.answerRest ∧ u.busy = s.busy ∧ u.seq = s.seq ∧ u.pstate ≠ s.pstate ∧ u.lum ≠ s.lum ∧ u.trace ≠ s.trace :=
  ⟨midLum, { midLum with pstate := .powersave, lum := none, trace := [], status := .fault, faultSeen := true },
    rfl, rfl, rfl, rfl, rfl, by decide, by decide, by decide⟩

theorem witness_UnacknowledgedEventWaits : ∃ (i : Instr) (s : State) (k : Nat) (e : Event),
    wellFormed s.params i = true ∧ s.atStart ∧ (commandEvents s.params i)[k]? = some e ∧
    s.acksAll ((commandEvents s.params i).take k) ∧ (s.afterAnswers k).answer = .hold :=
  ⟨.lum 50 0, answering 2 [.hold] (active bb), 2, .xfer 0x11, rfl, .inl rfl, rfl, ⟨rfl, rfl, trivial⟩, rfl⟩

theorem witness_WaitingCommandGoesOn : ∃ (i : Instr) (s : State) (k : Nat), wellFormed s.params i = true ∧
    s.busy = true ∧ s.seq = .running k ∧ s.acksAll ((commandEvents s.params i).drop k) :=
  ⟨.lum 50 0, { midLum with seq := .running 12 }, 12, rfl, rfl, rfl, ⟨rfl, rfl, trivial⟩⟩

theorem witness_TransactionShape :
    ((burstWrite .bitbang [0x5A] id id).map Item.event)[2]? = some (.xfer 0x5A) ∧ shifting.wf = true ∧
    shifting.shift = some testShift := ⟨by decide, test_shift_well_formed, rfl⟩

theorem witness_NumberReadings : ((-128 : Int) ≤ -128 ∧ (-128 : Int) ≤ 127) ∧ ((-128 : Int) ≤ 127 ∧ (127 : Int) ≤ 127) ∧
    (5 : Int) ≤ 5 := by decide

theorem reliable_block (p : Params) (h : p.transportFaults = false) : (block p).Reliable :=
  ⟨h, Answer.noConfusion, fun a ha => by cases ha⟩

theorem witness_PowerModeWords : ∃ s : State, s.Reliable ∧ s.busy = false :=
  ⟨block hwPwr, reliable_block _ rfl, rfl⟩

theorem witness_ReliableTransportCompletesEveryCommand : ∃ s : State, s.Reliable ∧ s.busy = false ∧
    wellFormed s.params (.probe 0 0) = false ∧ wellFormed s.params (.lum 0 0) = true :=
  ⟨block bb, reliable_block _ rfl, rfl, rfl, rfl⟩

theorem witness_OperandValuesAreNeverIllegal : ∃ s : State, s.Reliable ∧ s.busy = false :=
  ⟨active bb, ⟨rfl, by decide, fun a ha => by cases ha⟩, rfl⟩

theorem witness_LumReachesThePanelImage : ∃ s : State, s.Reliable ∧ s.busy = false ∧ s.panelKnown = true ∧
    s.pstate = .active :=
  ⟨active bb, ⟨rfl, by decide, fun a ha => by cases ha⟩, rfl, rfl, rfl⟩

/-- A Transport that always acknowledges meets the condition of every result statement. -/
theorem acksAll_of_reliable (es : List Event) (s : State) (h : s.Reliable) : s.acksAll es := by
  induction es generalizing s with
  | nil => trivial
  | cons e es ih =>
    obtain ⟨h1, h2, h3⟩ := h
    have ha : ∃ f rx, s.answer = .ack f rx := by
      unfold State.answer
      cases hs : s.answers with
      | nil =>
        cases hr : s.answerRest with
        | hold => exact absurd hr h2
        | ack f rx => exact ⟨f, rx, rfl⟩
      | cons a rest =>
        cases a with
        | hold => exact absurd rfl (h3 .hold (by simp [hs]))
        | ack f rx => exact ⟨f, rx, rfl⟩
    obtain ⟨f, rx, ha⟩ := ha
    refine ⟨by simp [State.reply, ha, h1], ih _ ⟨h1, h2, fun a ha' => h3 a (List.mem_of_mem_tail ha')⟩⟩

/-- For both Transports and with PWR, at a command's beginning and with the command just accepted. -/
theorem witness_InitResult : (block bb).atStart ∧ (block bb).acksAll (initEvents bb) ∧ (block hwPwr).atStart ∧
    (block hwPwr).acksAll (initEvents hwPwr) :=
  ⟨.inl rfl, acksAll_of_reliable _ _ (reliable_block _ rfl), .inl rfl, acksAll_of_reliable _ _ (reliable_block _ rfl)⟩

theorem witness_PonResult : ∃ s : State, s.atStart ∧ s.params.hasPwr = true ∧ s.acksAll
    ([.setLine .pwr .high, .wait 16000] ++ wordEvents .hwspi 0x00 0x4D ++ wordEvents .hwspi 0x00 0x4F) :=
  ⟨block hwPwr, .inl rfl, rfl, acksAll_of_reliable _ _ (reliable_block _ rfl)⟩

theorem witness_PoffResult : ∃ s : State, s.atStart ∧ s.params.hasPwr = true ∧ s.acksAll
    (wordEvents .hwspi 0x00 0x4D ++ wordEvents .hwspi 0x00 0x4C ++ [.wait 16000, .setLine .pwr .low]) :=
  ⟨{ block hwPwr with busy := true, seq := .running 0 }, .inr rfl, rfl,
    acksAll_of_reliable _ _ ⟨rfl, by decide, fun a ha => by cases ha⟩⟩

theorem witness_LumResult : ∃ s : State, s.atStart ∧
    s.acksAll (wordEvents .bitbang 0x11 0x07 ++ wordEvents .bitbang 0x13 0x05) :=
  ⟨active bb, .inl rfl, acksAll_of_reliable _ _ ⟨rfl, by decide, fun a ha => by cases ha⟩⟩

theorem witness_OrbResult : ∃ s : State, s.atStart ∧
    s.acksAll (wordEvents .bitbang 0x02 0x0A ++ wordEvents .bitbang 0x03 0xF6) :=
  ⟨active bb, .inl rfl, acksAll_of_reliable _ _ ⟨rfl, by decide, fun a ha => by cases ha⟩⟩

theorem witness_ProbeResult : ∃ s : State, s.params.hasProbe = true ∧ s.atStart ∧
    s.acksAll (commandEvents s.params (.probe 0 0)) :=
  ⟨active probing, rfl, .inl rfl, acksAll_of_reliable _ _ ⟨rfl, by decide, fun a ha => by cases ha⟩⟩

theorem witness_LumAndOrbKeepPstateAndSendTheSame : (∃ n b, Instr.lum 5 0 = .lum n b) ∧ ∃ h v, Instr.orb 10 246 = .orb h v :=
  ⟨⟨_, _, rfl⟩, _, _, rfl⟩

/-- Every row of the table: each command in each state of the panel completes as OK from a state between commands. -/
theorem witness_TransitionTable : ∀ q ∈ [PState.uninit, .reset, .active, .powersave],
    ∀ i ∈ [Instr.init 0 0, .pon 0 0, .poff 0 0, .lum 60 0, .orb 0xFC 7, .probe 0 0],
      (nextOf (exec i { active probing with pstate := q })).map (fun t => (t.busy, t.status)) = some (false, .ok) := by
  decide

theorem witness_InitNeverWritesBeforeReady : fires bb (.init 0 0) 7 = some (.setLine .rst .high) ∧
    fires bb (.init 0 0) 11 = some (.xfer 0xA1) ∧ fires bb (.init 0 0) 9 = some (.setLine .cs .low) := by decide

theorem witness_EventsUseExistingLinesAndDurations : Event.setLine .data .low ∈ commandEvents bbPwr (.init 0 0) ∧
    Event.setLine .clk .low ∈ commandEvents bbPwr (.init 0 0) ∧ Event.setLine .pwr .low ∈ commandEvents bbPwr (.init 0 0) ∧
    Event.setLine .rst .high ∈ commandEvents bbPwr (.init 0 0) ∧ Event.wait 16000 ∈ commandEvents bbPwr (.init 0 0) := by
  decide

/-- A command whose event `k` faults. -/
def faultingAt (k : Nat) (p : Params) : State := answering k [.ack true none] (active { p with transportFaults := true })

/-- The first event of the list after `k` acknowledged ones faults. -/
theorem faultsAt_of (p : Params) (es : List Event) (k : Nat) (e : Event) (he : es[k]? = some e) (hc : e.canFault = true) :
    (faultingAt k p).FaultsAt es k e .ok := by
  have hacks : ∀ (n : Nat) (fs : List Event) (s : State), fs.length ≤ n →
      s.answers = List.replicate n (.ack false none) ++ [.ack true none] → s.acksAll fs := by
    intro n fs
    induction fs generalizing n with
    | nil => intros; trivial
    | cons f fs ih =>
      intro s hn hs
      cases n with
      | zero => simp at hn
      | succ n =>
        refine ⟨by simp [State.reply, State.answer, hs, List.replicate_succ], ih n _ (by simpa using hn) ?_⟩
        simp [State.popAnswer, hs, List.replicate_succ]
  refine ⟨he, hacks k _ _ (List.length_take_le _ _) rfl, ?_, ?_, ?_⟩ <;>
    simp [State.reply, State.answer, State.afterAnswers, faultingAt, answering, active, block, State.reset, hc,
      List.drop_append, List.drop_replicate, Nat.sub_eq_zero_of_le]

theorem witness_AbortProcedure : ∃ (i : Instr) (s : State) (k : Nat) (e : Event) (r : Reply),
    wellFormed s.params i = true ∧ s.atStart ∧ s.FaultsAt (commandEvents s.params i) k e r :=
  ⟨.lum 50 0, faultingAt 10 bb, 10, .xfer 50, .ok, rfl, .inl rfl, faultsAt_of _ _ _ _ rfl rfl⟩

/-- The procedure's own `SetLine(CS,1)` faults too (F5). -/
theorem witness_AbortProcedure_twice : ∃ (s : State), s.atStart ∧
    s.FaultsAt (commandEvents s.params (.lum 50 0)) 0 (.setLine .cs .low) .fault :=
  ⟨answering 0 [.ack true none, .ack true none] (active faulty), .inl rfl, rfl, trivial, rfl, rfl, rfl⟩

/-- A fault in the last event of the first word, and in the first event of the second. -/
theorem witness_LumAbort : ∀ k ∈ [5, 7], ∃ (s t : State) (e : Event), s.atStart ∧
    s.FaultsAt (commandEvents s.params (.lum 50 0)) k e .ok ∧ exec (.lum 50 0) s = .next t := by
  intro k hk
  simp only [List.mem_cons, List.not_mem_nil, or_false] at hk
  rcases hk with rfl | rfl
  · exact ⟨faultingAt 5 bb, _, .setLine .cs .high, .inl rfl, faultsAt_of _ _ _ _ rfl rfl, rfl⟩
  · exact ⟨faultingAt 7 bb, _, .setLine .cs .low, .inl rfl, faultsAt_of _ _ _ _ rfl rfl, rfl⟩

theorem witness_OrbAbort : ∀ k ∈ [5, 7], ∃ (s t : State) (e : Event), s.atStart ∧
    s.FaultsAt (commandEvents s.params (.orb 15 0xEC)) k e .ok ∧ exec (.orb 15 0xEC) s = .next t := by
  intro k hk
  simp only [List.mem_cons, List.not_mem_nil, or_false] at hk
  rcases hk with rfl | rfl
  · exact ⟨faultingAt 5 bb, _, .setLine .cs .high, .inl rfl, faultsAt_of _ _ _ _ rfl rfl, rfl⟩
  · exact ⟨faultingAt 7 bb, _, .setLine .cs .low, .inl rfl, faultsAt_of _ _ _ _ rfl rfl, rfl⟩

/-- At the first `SetLine(RST,0)` and right after it, for both Transports. -/
theorem witness_InitAbort : (∃ t, (faultingAt 2 bb).FaultsAt (commandEvents bb (.init 0 0)) 2 (.setLine .rst .low) .ok ∧
      exec (.init 0 0) (faultingAt 2 bb) = .next t) ∧
    (∃ t, (faultingAt 3 bb).FaultsAt (commandEvents bb (.init 0 0)) 3 (.setLine .cs .high) .ok ∧
      exec (.init 0 0) (faultingAt 3 bb) = .next t) ∧
    (∃ t, (faultingAt 0 hw).FaultsAt (commandEvents hw (.init 0 0)) 0 (.setLine .rst .low) .ok ∧
      exec (.init 0 0) (faultingAt 0 hw) = .next t) ∧
    ∃ t, (faultingAt 1 hw).FaultsAt (commandEvents hw (.init 0 0)) 1 (.setLine .cs .high) .ok ∧
      exec (.init 0 0) (faultingAt 1 hw) = .next t :=
  ⟨⟨_, faultsAt_of _ _ _ _ rfl rfl, rfl⟩, ⟨_, faultsAt_of _ _ _ _ rfl rfl, rfl⟩, ⟨_, faultsAt_of _ _ _ _ rfl rfl, rfl⟩,
    _, faultsAt_of _ _ _ _ rfl rfl, rfl⟩

/-- PON; POFF cut in its words; POFF cut after them. -/
theorem witness_PowerCommandAbort :
    (∃ t, (faultingAt 0 bbPwr).FaultsAt (commandEvents bbPwr (.pon 0 0)) 0 (.setLine .pwr .high) .ok ∧
      exec (.pon 0 0) (faultingAt 0 bbPwr) = .next t) ∧
    (∃ t, (faultingAt 12 bbPwr).FaultsAt (commandEvents bbPwr (.poff 0 0)) 12 (.setLine .cs .high) .ok ∧
      exec (.poff 0 0) (faultingAt 12 bbPwr) = .next t) ∧
    ∃ t, (faultingAt 15 bbPwr).FaultsAt (commandEvents bbPwr (.poff 0 0)) 15 (.setLine .pwr .low) .ok ∧
      exec (.poff 0 0) (faultingAt 15 bbPwr) = .next t :=
  ⟨⟨_, faultsAt_of _ _ _ _ rfl rfl, rfl⟩, ⟨_, faultsAt_of _ _ _ _ rfl rfl, rfl⟩, _, faultsAt_of _ _ _ _ rfl rfl, rfl⟩

/-- In the first word and in the last. -/
theorem witness_ProbeAbort :
    (∃ t, (faultingAt 0 probing).FaultsAt (commandEvents probing (.probe 0 0)) 0 (.setLine .cs .low) .ok ∧
      (probeSequence probing.probeWords)[0 / 7]? = some 0x8001 ∧ exec (.probe 0 0) (faultingAt 0 probing) = .next t) ∧
    ∃ t, (faultingAt 26 probing).FaultsAt (commandEvents probing (.probe 0 0)) 26 (.setLine .cs .high) .ok ∧
      (probeSequence probing.probeWords)[26 / 7]? = some 0x8000 ∧ exec (.probe 0 0) (faultingAt 26 probing) = .next t :=
  ⟨⟨_, faultsAt_of _ _ _ _ rfl rfl, rfl, rfl⟩, _, faultsAt_of _ _ _ _ rfl rfl, rfl, rfl⟩

/-- `fault_seen` kept over a command, and cleared by reset. -/
theorem witness_FaultSeenIsSticky : ∃ s t u : State, s.faultSeen = true ∧ step s = .next t ∧ t.faultSeen = true ∧
    step { s with host := [.rst] } = .next u ∧ u.faultSeen = false :=
  ⟨{ active bb with faultSeen := true, host := [.present 0x049600] }, _, _, rfl, rfl, rfl, rfl, rfl⟩

/-- A command that waits, one that completes as OK, and one that completes as FAULT. -/
theorem witness_FlagsAreWrittenAtCompletion : ∃ t u v : State,
    exec (.lum 50 0) (answering 2 [.hold] (active bb)) = .next t ∧ t.busy = true ∧
    exec (.lum 50 0) (active bb) = .next u ∧ u.busy = false ∧ u.status = .ok ∧
    exec (.lum 50 0) (faultingAt 2 bb) = .next v ∧ v.busy = false ∧ v.status = .fault :=
  ⟨_, _, _, rfl, rfl, rfl, rfl, rfl, rfl, rfl, rfl⟩

/-- `exec` answers a next state for each of the six commands: the frames are about something. -/
theorem witness_Frames : ∃ t1 t2 t3 t4 t5 t6 : State, exec (.lum 50 0) (active bb) = .next t1 ∧
    exec (.orb 1 2) (active bb) = .next t2 ∧ exec (.probe 0 0) (active probing) = .next t3 ∧
    exec (.pon 0 0) (active bb) = .next t4 ∧ exec (.poff 0 0) (active hwPwr) = .next t5 ∧
    exec (.init 0 0) (active hw) = .next t6 ∧ hw.transport = .hwspi ∧ hw.hasPwr = false ∧ bb.hasPwr = false :=
  ⟨_, _, _, _, _, _, rfl, rfl, rfl, rfl, rfl, rfl, rfl, rfl, rfl⟩

/-- Addresses outside the registers each frame names. -/
theorem witness_Frames_addresses : ((0x10 : Byte) ≠ 0x11 ∧ (0x10 : Byte) ≠ 0x13) ∧ ((0x04 : Byte) ≠ 0x02 ∧ (0x04 : Byte) ≠ 0x03) ∧
    (0xFF : Byte) ≠ 0x00 ∧ (∀ w ∈ probeSequence probing.probeWords, (0x11 : Byte) ≠ w.extractLsb' 8 8) ∧
    LineId.rst ≠ .cs := by simp [probeSequence, probing]

theorem witness_ParametersNeverChange : ∃ s t : State, step s = .next t ∧ s.busy = true :=
  ⟨midLum, _, rfl, rfl⟩

/-- A state in flight meets the invariant. -/
theorem midLum_inv : midLum.Inv where
  paramsWf := by decide
  busySeq := by decide
  flight _ := ⟨.lum 50 0, .xfer 0x11, by decide, by decide, by decide, .inl ⟨2, by decide, by decide⟩⟩
  idlePort := by decide
  pregWf := ⟨List.Pairwise.nil, fun _ h => absurd h List.not_mem_nil⟩
  lumRange n h := by cases h; decide
  orbHRange x h := by cases h; decide
  orbVRange x h := by cases h; decide
  noDataClk := by decide
  noPwr := by decide
  faultRecord := by decide
  shadowsBeforeInit := by decide

theorem witness_InvariantKeptByEveryStep : ∃ s t : State, s.Inv ∧ step s = .next t ∧ t.busy = false :=
  ⟨midLum, _, midLum_inv, rfl, rfl⟩

theorem witness_InvariantStepNeverStops : ∃ s : State, s.Inv ∧ s.busy = true := ⟨midLum, midLum_inv, rfl⟩

/-- The shadows at the ends of their ranges. -/
theorem witness_StatusOutputsHoldTheShadows :
    { midLum with lum := some 5, orbH := some (-10), orbV := some 10 }.Inv ∧
    { midLum with lum := some 100, orbH := some 10, orbV := some (-10) }.Inv := by
  obtain ⟨h1, h2, h3, h4, h5, -, -, -, h9, h10, h11, -⟩ := midLum_inv
  refine ⟨⟨h1, h2, h3, h4, h5, ?_, ?_, ?_, h9, h10, h11, by decide⟩, h1, h2, h3, h4, h5, ?_, ?_, ?_, h9, h10, h11,
    by decide⟩ <;> (intro x h; cases h; decide)

/-- The block waits, the host presents another command, and the Transport never answers. -/
theorem witness_StuckForEver : ∃ s : State, s.Inv ∧ s.busy = true ∧ s.answers = [] ∧ s.answerRest = .hold ∧
    s.host = [.present 0x010000] := by
  obtain ⟨h1, h2, h3, h4, h5, h6, h7, h8, h9, h10, h11, h12⟩ := midLum_inv
  exact ⟨{ midLum with answerRest := .hold, host := [.present 0x010000] },
    ⟨h1, h2, h3, h4, h5, h6, h7, h8, h9, h10, h11, h12⟩, rfl, rfl, rfl, rfl⟩

theorem witness_BusDisciplineKeptByEveryStep : ∃ s t : State, s.Inv ∧ s.BusInv ∧ step s = .next t :=
  ⟨midLum, _, midLum_inv, ⟨.lum 50 0, .opened, by decide, by decide, by decide⟩, rfl⟩

/-- Two words, the first cut by a fault (F3). -/
theorem witness_DisciplineSeparatesAssertions : ∃ tr : List TraceEntry, busRun .bitbang .gapped tr ≠ none ∧
    tr[0]? = some ⟨.setLine .cs .low, .fault⟩ ∧ tr[3]? = some ⟨.setLine .cs .low, .ok⟩ :=
  ⟨[⟨.setLine .cs .low, .fault⟩, ok (.setLine .cs .high), ok (.wait 200)] ++ wordBB 0x13 0x05, by decide, rfl, rfl⟩

theorem witness_DisciplineEnclosesBytes : busRun .bitbang .gapped (wordBB 0x13 0x05) ≠ none ∧
    (wordBB 0x13 0x05)[2]? = some ⟨.xfer 0x13, .ok⟩ ∧ (wordBB 0x13 0x05)[3]? = some ⟨.xfer 0x05, .ok⟩ := by decide

end Sys2Proof.Tests
end

section
/-! PROOFS. The family 30_encoding.md: a register word on the wire (O18), and operand values that are never illegal (O32). -/

namespace Sys2Proof.Machine

/-! ### A register word on the wire (R80, R51) -/

/-- Of a frame's seven events only the two transfers put bits on the data line. -/
theorem wireBits_wordEvents (t : Transport) (a v : Byte) :
    (wordEvents t a v).flatMap wireBits = byteBits bitOrder a ++ byteBits bitOrder v := by
  simp [wordEvents, wireBits]

/-- The block sends the most significant bit of a byte first (R52). -/
theorem byteBits_bitOrder (b : Byte) : byteBits bitOrder b = (List.range 8).map fun n => b.getLsbD (7 - n) := rfl

theorem addrByte_getLsbD (w : Word16) {n : Nat} (h : n < 8) : (addrByte w).getLsbD n = w.getLsbD (8 + n) := by
  simp [addrByte, h]

theorem valByte_getLsbD (w : Word16) {n : Nat} (h : n < 8) : (valByte w).getLsbD n = w.getLsbD n := by
  simp [valByte, h]

/-- The bits of the address byte and then those of the value byte are the word's bits, 15 down to 0. -/
theorem byteBits_addrByte_append_valByte (w : Word16) :
    byteBits bitOrder (addrByte w) ++ byteBits bitOrder (valByte w) =
      (List.range 16).map fun n => w.getLsbD (15 - n) := by
  have hrange : List.range 16 = List.range 8 ++ (List.range 8).map (8 + ·) := by decide
  rw [hrange, List.map_append, List.map_map, byteBits_bitOrder, byteBits_bitOrder]
  congr 1 <;> refine List.map_congr_left fun n hn => ?_
  · have hn : n < 8 := List.mem_range.1 hn
    rw [addrByte_getLsbD w (by omega), show 8 + (7 - n) = 15 - n by omega]
  · rw [valByte_getLsbD w (by omega), Function.comp_apply, show 15 - (8 + n) = 7 - n by omega]

/-- Settles O18: the events are those of `events_writeWord`, and their bits are the two bytes' bits, one after the other. -/
theorem registerWordOnTheWire : Obligations.RegisterWordOnTheWire := by
  intro t w done cut
  refine ⟨events_writeWord t w done cut, ?_⟩
  rw [events_writeWord, wireBits_wordEvents, byteBits_addrByte_append_valByte]

/-! ### The silent clamp (R78, R142, R145) -/

theorem clamp_eq (x : Int) {lo hi : Int} (h : lo ≤ hi) : clamp x lo hi = max lo (min hi x) := by
  unfold clamp
  split
  · omega
  · split <;> omega

theorem lumValue_eq (n : Byte) : lumValue n = max 5 (min 100 n.toNat) := by
  rw [lumValue, clamp_eq _ (by decide)]
  simp only [u8, lumMin, lumMax]
  omega

theorem orbValue_eq (b : Byte) : orbValue b = max (-10) (min 10 (s8 b)) := clamp_eq _ (by decide)

/-- A number in the range of a two's-complement byte is read back from its byte (R10). -/
theorem s8_ofInt {x : Int} (hlo : -128 ≤ x) (hhi : x < 128) : s8 (BitVec.ofInt 8 x) = x := by
  simp only [s8, BitVec.toNat_ofInt]
  split <;> omega

/-- Clamping is idempotent: the clamped operand is in range, so its own byte is clamped to itself. -/
theorem lumValue_ofNat_lumValue (n : Byte) : lumValue (BitVec.ofNat 8 (lumValue n)) = lumValue n := by
  have hmem := lumValue_mem n
  rw [lumValue_eq (BitVec.ofNat 8 _), BitVec.toNat_ofNat]
  omega

theorem orbValue_ofInt_orbValue (b : Byte) : orbValue (BitVec.ofInt 8 (orbValue b)) = orbValue b := by
  have hmem := orbValue_mem b
  rw [orbValue_eq (BitVec.ofInt 8 _), s8_ofInt (by omega) (by omega)]
  omega

/-- LUM reads its operand through `lumValue` alone. -/
theorem exec_lum_congr {m n : Byte} (h : lumValue m = lumValue n) (b : Byte) (s : State) :
    exec (.lum m b) s = exec (.lum n b) s := by
  simp only [exec, execLum, lumItems, lumWrite, lumValueWord, h]

/-- ORB reads its operands through `orbValue` alone. -/
theorem exec_orb_congr {h h' v v' : Byte} (hh : orbValue h = orbValue h') (hv : orbValue v = orbValue v') (s : State) :
    exec (.orb h v) s = exec (.orb h' v') s := by
  simp only [exec, execOrb, orbItems, orbHWrite, orbVWrite, orbHWord, orbVWord, hh, hv]

/-! ### A command on a reliable Transport (R108) -/

theorem State.Reliable.reply_ok {s : State} (h : s.Reliable) (e : Event) : s.reply e = some .ok := by
  obtain ⟨hfaults, hrest, hanswers⟩ := h
  have hhold : s.answer ≠ .hold := by
    unfold State.answer
    split
    · exact hrest
    · next a rest heq => exact hanswers a (by simp [heq])
  unfold State.reply
  split
  · contradiction
  · simp [hfaults]

theorem State.Reliable.popAnswer {s : State} (h : s.Reliable) : s.popAnswer.Reliable := by
  obtain ⟨hfaults, hrest, hanswers⟩ := h
  exact ⟨hfaults, hrest, fun a ha => hanswers a (List.mem_of_mem_tail ha)⟩

theorem State.Reliable.acksAll {s : State} (h : s.Reliable) (es : List Event) : s.acksAll es := by
  induction es generalizing s with
  | nil => trivial
  | cons e es ih => exact ⟨h.reply_ok e, ih h.popAnswer⟩

/-- A command of the block, begun on a reliable Transport, performs its whole list and completes as OK. -/
theorem exec_of_reliable {i : Instr} {s : State} (hi : wellFormed s.params i = true) (hr : s.Reliable)
    (hs : s.atStart) : exec i s = .next ((performAll 0 (commandItems s.params i) s.start).complete .ok) := by
  rw [exec_eq_runCommand i s hi, runCommand_atStart _ s hs, runItems_acksAll _ (lawful_commandItems s.params i)]
  exact State.Reliable.acksAll (s := s.start) hr _

/-! ### Decoding (R70, R75) -/

theorem decode_cmdWord (op a b : Byte) : decode (cmdWord op a b) = decodeFields op a b := by
  simp [decode]

/-- Settles O32: decoding by the fields of the word, the clamp because each operand is read through its clamped value, and
completion because a reliable Transport acknowledges the whole list. -/
theorem operandValuesAreNeverIllegal : Obligations.OperandValuesAreNeverIllegal := by
  intro a b s
  refine ⟨decode_cmdWord _ a b, decode_cmdWord _ a b, ?_, ?_, fun hr hb => ⟨?_, ?_⟩⟩
  · rw [← lumValue_eq]
    exact exec_lum_congr (lumValue_ofNat_lumValue a).symm _ s
  · rw [← orbValue_eq, ← orbValue_eq]
    exact exec_orb_congr (orbValue_ofInt_orbValue a).symm (orbValue_ofInt_orbValue b).symm s
  · exact ⟨_, exec_of_reliable rfl hr (.inl hb), rfl, rfl⟩
  · exact ⟨_, exec_of_reliable rfl hr (.inl hb), rfl, rfl⟩

end Sys2Proof.Machine
end

section
/-! PROOFS. The family 42_register_encoder.md: the power-mode sequences on the bus (O24), and the luminance words (O21). -/

namespace Sys2Proof.Machine

/-! ### The bytes of event lists -/

theorem xferBytes_append (es fs : List Event) : xferBytes (es ++ fs) = xferBytes es ++ xferBytes fs := by
  induction es with
  | nil => rfl
  | cons e es ih => cases e <;> simp [xferBytes, ih]

/-- A frame carries its address byte and then its value byte (R124). -/
theorem xferBytes_wordEvents (t : Transport) (a v : Byte) : xferBytes (wordEvents t a v) = [a, v] := rfl

theorem okEntries_append (es fs : List Event) : okEntries (es ++ fs) = okEntries es ++ okEntries fs :=
  List.map_append

/-! ### The power-mode sequences (R147, R168, R170) -/

/-- All four words address register `0x00`. -/
theorem addrByte_of_mem_powerSequences : ∀ w ∈ panelOnSequence ++ panelOffSequence, addrByte w = 0x00 := by
  simp [panelOnSequence, panelOffSequence]

/-- The bytes of `writeRegisters` are its words, address byte first, in order (R124, R125). -/
theorem xferBytes_writeRegisters (t : Transport) (rs : List RegWrite) :
    xferBytes ((writeRegisters t rs).map Item.event) = rs.flatMap fun r => [addrByte r.word, valByte r.word] := by
  induction rs with
  | nil => rfl
  | cons r rs ih =>
    rw [writeRegisters_cons, List.map_append, xferBytes_append, events_writeWord, xferBytes_wordEvents, ih,
      List.flatMap_cons]

/-- The power line's events of PON and POFF carry no byte, so the bytes are those of the two register words. -/
theorem xferBytes_commandEvents_pon (p : Params) (a b : Byte) :
    xferBytes (commandEvents p (.pon a b)) = [0x00, 0x4D, 0x00, 0x4F] := by
  rw [commandEvents, commandItems, ponItems, List.map_append, xferBytes_append, xferBytes_writeRegisters]
  cases p.hasPwr <;> rfl

theorem xferBytes_commandEvents_poff (p : Params) (a b : Byte) :
    xferBytes (commandEvents p (.poff a b)) = [0x00, 0x4D, 0x00, 0x4C] := by
  rw [commandEvents, commandItems, poffItems, List.map_append, xferBytes_append, xferBytes_writeRegisters]
  cases p.hasPwr <;> rfl

/-! ### One command after another on a reliable Transport (R108) -/

/-- Answers already used do not make a Transport unreliable. -/
theorem State.Reliable.of_drop {s t : State} (h : s.Reliable) (n : Nat) (hp : t.params = s.params)
    (hr : t.answerRest = s.answerRest) (ha : t.answers = s.answers.drop n) : t.Reliable := by
  obtain ⟨hfaults, hrest, hanswers⟩ := h
  exact ⟨hp ▸ hfaults, hr ▸ hrest, fun a hmem => hanswers a (List.mem_of_mem_drop (ha ▸ hmem))⟩

/-- The block is idle and its Transport still reliable after the command, so another command can follow. -/
theorem exec_trace_of_reliable {i : Instr} {s : State} (hi : wellFormed s.params i = true) (hr : s.Reliable)
    (hb : s.busy = false) : ∃ t, exec i s = .next t ∧ t.Reliable ∧ t.busy = false ∧
      t.trace = s.trace ++ okEntries (commandEvents s.params i) := by
  obtain ⟨hparams, hrest, hanswers, htrace, -⟩ :=
    performAll_spec (commandItems s.params i) (lawful_commandItems s.params i) 0 s.start
  exact ⟨_, exec_of_reliable hi hr (.inl hb), hr.of_drop _ hparams hrest hanswers, rfl, htrace⟩

/-- Settles O24: the sequences by their values; PON and then POFF each append their whole event list to the trace, and the
bytes of the two lists, one after the other, are the four words. -/
theorem powerModeWords : Obligations.PowerModeWords := by
  refine ⟨rfl, rfl, addrByte_of_mem_powerSequences, fun s a b c d hr hb => ?_⟩
  obtain ⟨t, hpon, htr, htb, htrace⟩ := exec_trace_of_reliable (i := .pon a b) rfl hr hb
  obtain ⟨u, hpoff, -, -, hutrace⟩ := exec_trace_of_reliable (i := .poff c d) rfl htr htb
  refine ⟨t, u, commandEvents s.params (.pon a b) ++ commandEvents t.params (.poff c d), hpon, hpoff, ?_, ?_⟩
  · rw [hutrace, htrace, okEntries_append, List.append_assoc]
  · rw [xferBytes_append, xferBytes_commandEvents_pon, xferBytes_commandEvents_poff]
    rfl

/-! ### The luminance words (R141, R142) -/

theorem lumEnableWord_eq : lumEnableWord = 0x1107 := by decide

/-- The clamped operand fits the value byte (R150). -/
theorem toNat_valByte_lumValueWord (n : Byte) : (valByte (lumValueWord n)).toNat = lumValue n := by
  have hmem := lumValue_mem n
  rw [lumValueWord, valByte_registerWord, BitVec.toNat_ofNat]
  omega

/-- Settles O21: the first word is a constant, and the second word's bytes are the two that `registerWord` joins. -/
theorem luminanceWords : Obligations.LuminanceWords := by
  intro n
  refine ⟨lumValueWord n, by rw [encodeLuminance, lumEnableWord_eq], addrByte_registerWord _ _, ?_⟩
  refine (toNat_valByte_lumValueWord n).trans ?_
  rw [lumValue_eq]
  split
  · omega
  · split <;> omega

end Sys2Proof.Machine
end

section
/-! PROOFS. The family 43_panel_controller.md: LUM and ORB keep `pstate`, and what they send does not depend on it (O33). -/

namespace Sys2Proof.Machine

/-! ### A run without the panel's record (R161) -/

/-- The state with the shadows, the power state record and the panel image blanked: what is left is all that the run of an
event list reads and all that a tame state write leaves alone. -/
def State.sansPanel (s : State) : State :=
  { s with lum := none, orbH := none, orbV := none, pstate := .uninit, preg := [], panelKnown := false }

/-- The Transport does not see the panel's record. -/
theorem State.sansPanel_reply (s : State) (e : Event) : s.sansPanel.reply e = s.reply e := rfl

/-- The Transport and the host see no difference outside the panel's record. -/
theorem State.outputs_of_sansPanel_eq {s u : State} (h : u.sansPanel = s.sansPanel) :
    u.trace = s.trace ∧ u.port = s.port ∧ u.busy = s.busy ∧ u.status = s.status :=
  ⟨(congrArg State.trace h :), (congrArg State.port h :), (congrArg State.busy h :), (congrArg State.status h :)⟩

theorem Tame.sansPanel {f : State → State} (hf : Tame f) (s : State) : (f s).sansPanel = s.sansPanel := by
  simp only [State.sansPanel, hf.params, hf.op, hf.argA, hf.argB, hf.seq, hf.busy, hf.status, hf.faultSeen, hf.lines,
    hf.trace, hf.port, hf.done, hf.answers, hf.answerRest, hf.host]

theorem runAbort_sansPanel (es : List Event) (k : Nat) (s : State) :
    (runAbort k es s).sansPanel = runAbort k es s.sansPanel := by
  induction es generalizing k s with
  | nil => rfl
  | cons e es ih =>
    simp only [runAbort, State.sansPanel_reply]
    cases s.reply e with
    | none => rfl
    | some r => exact ih _ _

/-- What a run does outside the panel's record, its bare events do, and from the rest of the state alone. -/
theorem runItems_sansPanel (items : List Item) (hl : ∀ it ∈ items, it.Lawful) (k : Nat) (s : State) :
    (runItems k items s).sansPanel = runItems k (items.map fun it => Item.plain it.event) s.sansPanel := by
  induction items generalizing k s with
  | nil => rfl
  | cons it rest ih =>
    obtain ⟨hack, hfault⟩ := hl it List.mem_cons_self
    simp only [List.map_cons, runItems, Item.plain, State.sansPanel_reply]
    cases s.reply it.event with
    | none => rfl
    | some r =>
      cases r with
      | ok => exact (ih (fun j hj => hl j (List.mem_cons_of_mem _ hj)) _ _).trans (by rw [hack.sansPanel]; rfl)
      | fault =>
        refine (runAbort_sansPanel _ _ _).trans (congrArg (runAbort 0 (abortEvents s.params.transport)) ?_)
        exact congrArg State.enterAbort (hfault.sansPanel (s.acknowledge it.event .fault))

theorem runCommand_sansPanel (items : List Item) (hl : ∀ it ∈ items, it.Lawful) (s : State) :
    (runCommand items s).sansPanel = runCommand (items.map fun it => Item.plain it.event) s.sansPanel := by
  have hbegin := runItems_sansPanel items hl 0 s.start
  have hbusy : s.sansPanel.busy = s.busy := rfl
  have hseq : s.sansPanel.seq = s.seq := rfl
  simp only [runCommand, hbusy, hseq]
  cases s.busy with
  | false => exact hbegin
  | true =>
    cases s.seq with
    | idle => exact hbegin
    | running k =>
      exact (runItems_sansPanel _ (fun it hit => hl it (List.mem_of_mem_drop hit)) k s).trans
        (congrArg (runItems k · s.sansPanel) List.map_drop)
    | aborting k => exact runAbort_sansPanel _ k s

/-! ### The state writes of register words (R162) -/

theorem writes_of_mem_txn {t : Transport} {bs : List Byte} {done cut : State → State} {it : Item}
    (hit : it ∈ txn t bs done cut) : (it.onAck = id ∨ it.onAck = done) ∧ it.onFault = cut := by
  simp only [txn, List.mem_append, List.mem_cons, List.mem_map, List.not_mem_nil, or_false] at hit
  rcases hit with ((rfl | rfl) | ⟨b, -, rfl⟩) | (rfl | rfl | rfl)
  all_goals simp

theorem exists_word_of_mem_writeRegisters {t : Transport} {rs : List RegWrite} {it : Item}
    (hit : it ∈ writeRegisters t rs) : ∃ r ∈ rs, it ∈ writeWord t r.word r.done r.cut := by
  induction rs with
  | nil => exact absurd hit List.not_mem_nil
  | cons r rs ih =>
    rcases List.mem_append.1 hit with hit | hit
    · exact ⟨r, List.mem_cons_self, hit⟩
    · obtain ⟨r', hr', hit⟩ := ih hit
      exact ⟨r', List.mem_cons_of_mem _ hr', hit⟩

/-- What the state writes of each word keep, those of every event of the words keep. -/
theorem writeRegisters_keeps {P : State → Prop} (t : Transport) (rs : List RegWrite)
    (h : ∀ r ∈ rs, ∀ s, P s → P (r.done s) ∧ P (r.cut s)) :
    ∀ it ∈ writeRegisters t rs, ∀ s, P s → P (it.onAck s) ∧ P (it.onFault s) := by
  intro it hit s hs
  obtain ⟨r, hr, hit⟩ := exists_word_of_mem_writeRegisters hit
  obtain ⟨hdone, hcut⟩ := h r hr s hs
  obtain ⟨hack, hfault⟩ := writes_of_mem_txn hit
  refine ⟨?_, hfault ▸ hcut⟩
  rcases hack with hack | hack
  · exact hack ▸ hs
  · exact hack ▸ hdone

/-! ### LUM and ORB and the power state (R173) -/

/-- No operation of a run writes `pstate` by itself. -/
theorem runClosed_pstate (q : PState) : RunClosed (fun _ => True) (fun s => s.pstate = q) where
  abortLine := trivial
  abortWait _ := trivial
  offer _ _ _ h := h
  acknowledge _ _ _ _ h := h
  moveTo _ _ h := h
  enterAbort _ h := h
  complete _ h := h
  completeFault _ h := h

/-- A command made of register words whose state writes leave `pstate` alone does so too, begun or carried on. -/
theorem runCommand_writeRegisters_pstate (t : Transport) (rs : List RegWrite)
    (h : ∀ r ∈ rs, ∀ s, (r.done s).pstate = s.pstate ∧ (r.cut s).pstate = s.pstate) (s : State) :
    (runCommand (writeRegisters t rs) s).pstate = s.pstate := by
  have hwrites := writeRegisters_keeps (P := fun u => u.pstate = s.pstate) t rs fun r hr u hu =>
    ⟨(h r hr u).1.trans hu, (h r hr u).2.trans hu⟩
  exact runCommand_keeps (runClosed_pstate s.pstate) (fun _ hu => hu) _ (fun it hit => ⟨trivial, hwrites it hit⟩) s rfl

theorem runCommand_lumItems_pstate (p : Params) (n : Byte) (s : State) :
    (runCommand (lumItems p n) s).pstate = s.pstate :=
  runCommand_writeRegisters_pstate _ _ (by simp [RegWrite.plain, lumWrite]) s

theorem runCommand_orbItems_pstate (p : Params) (h v : Byte) (s : State) :
    (runCommand (orbItems p h v) s).pstate = s.pstate :=
  runCommand_writeRegisters_pstate _ _ (by simp [orbHWrite, orbVWrite]) s

/-- Two runs of a command from states that differ in the panel's record alone differ in it alone at their end. -/
theorem runCommand_commandItems_sansPanel_congr (p : Params) (i : Instr) {s u : State} (h : u.sansPanel = s.sansPanel) :
    (runCommand (commandItems p i) u).sansPanel = (runCommand (commandItems p i) s).sansPanel := by
  rw [runCommand_sansPanel _ (lawful_commandItems p i), runCommand_sansPanel _ (lawful_commandItems p i), h]

/-- Settles O33: the register words of LUM and ORB write no `pstate`, and outside the panel's record, which holds `pstate`,
the two runs are one. -/
theorem lumAndOrbKeepPstateAndSendTheSame : Obligations.LumAndOrbKeepPstateAndSendTheSame := by
  intro i hi s q
  have hkeep : wellFormed s.params i = true ∧
      ∀ u, (runCommand (commandItems s.params i) u).pstate = u.pstate := by
    rcases hi with ⟨n, b, rfl⟩ | ⟨h, v, rfl⟩
    · exact ⟨rfl, runCommand_lumItems_pstate s.params n⟩
    · exact ⟨rfl, runCommand_orbItems_pstate s.params h v⟩
  obtain ⟨hwf, hpstate⟩ := hkeep
  have hsame := runCommand_commandItems_sansPanel_congr s.params i (s := s) (u := { s with pstate := q }) rfl
  exact ⟨_, _, exec_eq_runCommand i s hwf, exec_eq_runCommand i { s with pstate := q } hwf, hpstate s, hpstate _,
    State.outputs_of_sansPanel_eq hsame⟩

end Sys2Proof.Machine
end

section
/-! PROOFS. The family 60_exceptions.md: a Transport that never answers leaves the block stuck (O16). -/

namespace Sys2Proof.Machine

/-! ### A step of a busy block (R24, R73) -/

/-- A step that accepts nothing has, before it runs anything, changed `done` and the host's moves alone. -/
theorem QuietFrom.exists_host {s u : State} (hu : QuietFrom s u) : ∃ ms, u = { s with done := false, host := ms } := by
  rcases hu with rfl | rfl
  · exact ⟨s.host, rfl⟩
  · exact ⟨s.host.tail, rfl⟩

theorem carryOn_of_command {s : State} {i : Instr} (h : s.command = some i) : carryOn s = .run i s := by
  simp only [carryOn, h]

theorem quiet_of_busy {s : State} (hb : s.busy = true) : quiet s = carryOn s := if_pos hb

/-- Without block reset, a busy block goes on with its command whatever move the host makes. -/
theorem select_of_busy {s : State} (hb : s.busy = true) (hrst : ∀ rest, s.host ≠ .rst :: rest) :
    ∃ u, QuietFrom s u ∧ select s = carryOn u := by
  unfold select
  cases hh : s.host with
  | nil => exact ⟨_, .inl rfl, quiet_of_busy hb⟩
  | cons m rest =>
    cases m with
    | pass => exact ⟨_, .inr rfl, quiet_of_busy hb⟩
    | rst => exact absurd hh (hrst rest)
    | present w => exact ⟨_, .inl rfl, if_pos hb⟩

/-! ### A withheld acknowledgement (R112, R203) -/

/-- A Transport with no answer left but to withhold it acknowledges no event. -/
theorem State.reply_none_of_answerRest_hold {s : State} (ha : s.answers = []) (hr : s.answerRest = .hold) (e : Event) :
    s.reply e = none := by
  simp only [State.reply, State.answer, ha, hr]

/-- A command carried on at an event that is not acknowledged does nothing but offer it. -/
theorem runCommand_running_of_reply_none {items : List Item} {s : State} {k : Nat} {it : Item} (hb : s.busy = true)
    (hs : s.seq = .running k) (hk : items[k]? = some it) (hr : s.reply it.event = none) :
    runCommand items s = s.offer it.event := by
  obtain ⟨hlt, hget⟩ := List.getElem?_eq_some_iff.1 hk
  simp only [runCommand, hb, hs, List.drop_eq_getElem_cons hlt, hget, runItems, hr]

/-- The same inside the abort procedure. -/
theorem runCommand_aborting_of_reply_none {items : List Item} {s : State} {k : Nat} {e : Event} (hb : s.busy = true)
    (hs : s.seq = .aborting k) (hk : (abortEvents s.params.transport)[k]? = some e) (hr : s.reply e = none) :
    runCommand items s = s.offer e := by
  obtain ⟨hlt, hget⟩ := List.getElem?_eq_some_iff.1 hk
  simp only [runCommand, hb, hs, List.drop_eq_getElem_cons hlt, hget, runAbort, hr]

/-- The command in flight, when the Transport acknowledges nothing, offers once more the event it already offers. -/
theorem State.InFlight.exec_of_reply_none {s : State} (h : s.InFlight) (hb : s.busy = true)
    (hr : ∀ e, s.reply e = none) :
    ∃ i e, s.command = some i ∧ s.port = some e ∧ exec i s = .next (s.offer e) := by
  obtain ⟨i, e, hi, hwf, hport, hpos⟩ := h
  refine ⟨i, e, hi, hport, ?_⟩
  rw [exec_eq_runCommand i s hwf]
  rcases hpos with ⟨k, hs, hk⟩ | ⟨k, hs, hk⟩
  · rw [commandEvents, List.getElem?_map] at hk
    obtain ⟨it, hit, rfl⟩ := Option.map_eq_some_iff.1 hk
    rw [runCommand_running_of_reply_none hb hs hit (hr it.event)]
  · rw [runCommand_aborting_of_reply_none hb hs hk (hr e)]

/-- Settles O16: the step carries on the command in flight from `s` itself, but for `done` and the host's moves; the Transport
withholds its answer, so all that the command does is to offer the event that was offered before. -/
theorem stuckForEver : Obligations.StuckForEver := by
  intro s hinv hb ha hr hrst
  obtain ⟨u, hu, hsel⟩ := select_of_busy hb hrst
  obtain ⟨ms, rfl⟩ := hu.exists_host
  have hflight : State.InFlight { s with done := false, host := ms } := hinv.flight hb
  obtain ⟨i, e, hi, hport, hexec⟩ := hflight.exec_of_reply_none hb (State.reply_none_of_answerRest_hold ha hr)
  have hstep : step s = .next (State.offer e { s with done := false, host := ms }) := by
    rw [step, hsel, carryOn_of_command hi]
    exact hexec
  exact ⟨_, hstep, hb, rfl, hport.symm, rfl, rfl, rfl, rfl, rfl, congrArg List.tail ha, hr⟩

end Sys2Proof.Machine
end

section
/-! PROOFS. Decoding and encoding of command words (30_encoding.md): the round trip both ways (O9), the opcode map by masks
and matches (O10), and the words of vector V1 (O8). -/

namespace Sys2Proof

/-! ### The round trip (R70, R75) -/

/-- Every command's word is made of its opcode and its two operand bytes. -/
theorem exists_encode_eq_cmdWord (i : Instr) : ∃ a b, encode i = cmdWord (opcode i) a b := by
  cases i <;> exact ⟨_, _, rfl⟩

theorem opField_encode (i : Instr) : opField (encode i) = opcode i := by
  obtain ⟨a, b, h⟩ := exists_encode_eq_cmdWord i
  rw [h, opField_cmdWord]

theorem decode_encode (i : Instr) : decode (encode i) = .ok i := by
  cases i <;> exact Machine.decode_cmdWord _ _ _

/-- The opcode map read backwards: the fields of a word that decodes are those of the command's own word. -/
theorem encode_of_decodeFields {op a b : Byte} {i : Instr} (h : decodeFields op a b = .ok i) :
    encode i = cmdWord op a b := by
  have hop (n : Nat) (hn : op.toNat = n) : BitVec.ofNat 8 n = op := by rw [← hn, BitVec.ofNat_toNat, BitVec.setWidth_eq]
  unfold decodeFields at h
  split at h
  case h_7 => cases h
  all_goals
    next hn =>
    cases h
    rw [← hop _ hn]
    rfl

theorem encode_of_decode {w : CmdWord} {i : Instr} (h : decode w = .ok i) : encode i = w :=
  (encode_of_decodeFields h).trans (cmdWord_fields w)

/-- Settles O9: an encoded command is read back field by field; a word that decodes is made of its own three fields, which
are those of the command. -/
theorem decodeAndEncodeAgree : Obligations.DecodeAndEncodeAgree :=
  ⟨decode_encode, fun _ _ => encode_of_decode⟩

/-! ### The opcode map (R75, R76) -/

/-- A word that decodes to a command holds the command's opcode. -/
theorem opField_of_decode {w : CmdWord} {i : Instr} (h : decode w = .ok i) : opField w = opcode i := by
  rw [← encode_of_decode h, opField_encode]

/-- The mask keeps the field `op`. -/
theorem and_opcodeMask (w : CmdWord) : w &&& 0xFF0000 = cmdWord (opField w) 0 0 := by
  have hmask : (0xFF0000 : CmdWord) = cmdWord 0xFF 0 0 := rfl
  have hones : opField w &&& 0xFF = opField w := BitVec.and_allOnes
  have hzero (b : Byte) : b &&& 0 = 0 := BitVec.and_zero
  conv_lhs => rw [hmask, ← cmdWord_fields w, cmdWord, cmdWord, BitVec.and_append, BitVec.and_append]
  rw [hones, hzero, hzero, cmdWord]

theorem opField_toNat (w : CmdWord) : (opField w).toNat = w.toNat / 65536 := by
  have := w.isLt
  simp only [opField, BitVec.extractLsb'_toNat, Nat.shiftRight_eq_div_pow]
  omega

theorem and_opcodeMask_eq_iff (w : CmdWord) (op : Byte) : w &&& 0xFF0000 = cmdWord op 0 0 ↔ opField w = op := by
  rw [and_opcodeMask]
  exact ⟨fun h => by simpa using congrArg opField h, fun h => h ▸ rfl⟩

/-- One row of the opcode map: the match on `op` is the decoder's, whatever command `mk` the row names. -/
theorem opcodeRow {op : Byte} {mk : Byte → Byte → Instr} (hop : ∀ a b, opcode (mk a b) = op)
    (hdec : ∀ a b, decodeFields op a b = .ok (mk a b)) (w : CmdWord) :
    w &&& 0xFF0000 = cmdWord op 0 0 ↔ ∃ a b, decode w = .ok (mk a b) := by
  rw [and_opcodeMask_eq_iff]
  refine ⟨fun h => ⟨aField w, bField w, ?_⟩, fun ⟨a, b, h⟩ => (opField_of_decode h).trans (hop a b)⟩
  rw [decode, h, hdec]

theorem decodeFields_error_iff (op a b : Byte) :
    decodeFields op a b = .error (.reservedOpcode op) ↔ op.toNat = 0 ∨ 7 ≤ op.toNat := by
  unfold decodeFields
  split
  case h_7 h1 h2 h3 h4 h5 h6 =>
    simp only [imp_false] at h1 h2 h3 h4 h5 h6
    simp only [true_iff]
    omega
  all_goals
    next hn =>
    simp [hn]

/-- Settles O10: each row by the match on the field `op`; the reserved words are those whose `op` has no row. -/
theorem opcodeMapByMaskAndMatch : Obligations.OpcodeMapByMaskAndMatch := by
  intro w
  have hrow {op : Byte} {mk : Byte → Byte → Instr} (hop : ∀ a b, opcode (mk a b) = op)
      (hdec : ∀ a b, decodeFields op a b = .ok (mk a b)) := opcodeRow hop hdec w
  refine ⟨hrow (mk := .init) (fun _ _ => rfl) fun _ _ => rfl, hrow (mk := .pon) (fun _ _ => rfl) fun _ _ => rfl,
    hrow (mk := .poff) (fun _ _ => rfl) fun _ _ => rfl, hrow (mk := .lum) (fun _ _ => rfl) fun _ _ => rfl,
    hrow (mk := .orb) (fun _ _ => rfl) fun _ _ => rfl, hrow (mk := .probe) (fun _ _ => rfl) fun _ _ => rfl, ?_⟩
  refine Iff.trans ?_ (decodeFields_error_iff (opField w) (aField w) (bField w)).symm
  refine or_congr ((and_opcodeMask_eq_iff w 0).trans ?_) ?_
  · exact BitVec.toNat_eq
  · rw [opField_toNat]
    omega

/-- Settles O8: each word by the fields it is written with. -/
theorem specWordsDecode : Obligations.SpecWordsDecode := by
  refine ⟨rfl, rfl, rfl, rfl, rfl, rfl, rfl⟩

end Sys2Proof
end

section
/-! PROOFS. Received bytes are discarded (O13): every operation of a step commutes with leaving them out. -/

namespace Sys2Proof.Machine

/-! ### What `exec` answers -/

/-- `exec` answers a next state for every command and every state. -/
theorem exec_next (i : Instr) (s : State) : ∃ t, exec i s = .next t := by
  cases h : wellFormed s.params i with
  | true => exact ⟨_, exec_eq_runCommand i s h⟩
  | false => exact ⟨_, exec_reserved i s h⟩

/-- A command of the block runs its event list; a reserved one completes as ILLEGAL. -/
theorem exec_cases {i : Instr} {s t : State} (h : exec i s = .next t) :
    (wellFormed s.params i = true ∧ t = runCommand (commandItems s.params i) s) ∨
    (wellFormed s.params i = false ∧ t = s.completeIllegal) := by
  cases hw : wellFormed s.params i with
  | true =>
    rw [exec_eq_runCommand i s hw] at h
    cases h
    exact .inl ⟨rfl, rfl⟩
  | false =>
    rw [exec_reserved i s hw] at h
    cases h
    exact .inr ⟨rfl, rfl⟩

/-! ### The state writes of the commands -/

/-- A property of state writes that `id` has, that composition keeps, and that each state write of the model has. -/
structure WriteClosed (T : (State → State) → Prop) : Prop where
  id : T id
  comp : ∀ {f g : State → State}, T f → T g → T fun s => f (g s)
  panelSent : ∀ w, T (State.panelSent w)
  panelCut : ∀ w, T (State.panelCut w)
  panelLost : T State.panelLost
  panelReset : T State.panelReset
  panelInitialised : T State.panelInitialised
  panelOn : T State.panelOn
  panelOff : T State.panelOff
  lumSent : ∀ n, T (State.lumSent (lumValue n))
  lumCut : T State.lumCut
  orbHSent : ∀ b, T (State.orbHSent (orbValue b))
  orbHCut : T State.orbHCut
  orbVSent : ∀ b, T (State.orbVSent (orbValue b))
  orbVCut : T State.orbVCut

section
variable {T : (State → State) → Prop} (hT : WriteClosed T)
include hT

theorem WriteClosed.plain (e : Event) : T (Item.plain e).onAck ∧ T (Item.plain e).onFault := ⟨hT.id, hT.id⟩

theorem WriteClosed.txn (t : Transport) (bs : List Byte) {done cut : State → State} (hd : T done) (hc : T cut) :
    ∀ it ∈ txn t bs done cut, T it.onAck ∧ T it.onFault := by
  intro it hit
  obtain ⟨hack | hack, hfault⟩ := writes_of_mem_txn hit
  · exact ⟨hack ▸ hT.id, hfault ▸ hc⟩
  · exact ⟨hack ▸ hd, hfault ▸ hc⟩

theorem WriteClosed.writeRegisters (t : Transport) (rs : List RegWrite) (h : ∀ r ∈ rs, T r.done ∧ T r.cut) :
    ∀ it ∈ writeRegisters t rs, T it.onAck ∧ T it.onFault := by
  intro it hit
  obtain ⟨r, hr, hit⟩ := exists_word_of_mem_writeRegisters hit
  exact hT.txn t _ (h r hr).1 (h r hr).2 it hit

theorem WriteClosed.initLines (p : Params) : ∀ it ∈ initLines p, T it.onAck ∧ T it.onFault := by
  intro it hit
  simp only [Machine.initLines, List.mem_append, List.mem_cons, List.not_mem_nil, or_false] at hit
  rcases hit with ((hit | rfl | rfl) | hit) | rfl | rfl | rfl | rfl | rfl
  · split at hit <;> simp only [List.mem_cons, List.not_mem_nil, or_false] at hit
    rcases hit with rfl | rfl <;> exact hT.plain _
  · exact ⟨hT.panelReset, hT.id⟩
  · exact hT.plain _
  · split at hit <;> simp only [List.mem_cons, List.not_mem_nil, or_false] at hit
    exact hit ▸ ⟨hT.panelLost, hT.id⟩
  all_goals exact hT.plain _

/-- Every state write of every command has a property that is closed in this sense. -/
theorem WriteClosed.commandItems (p : Params) (i : Instr) :
    ∀ it ∈ commandItems p i, T it.onAck ∧ T it.onFault := by
  have hplain (w : Word16) : T (RegWrite.plain w).done ∧ T (RegWrite.plain w).cut := ⟨hT.panelSent w, hT.panelCut w⟩
  cases i with
  | init a b =>
    intro it hit
    rcases List.mem_append.1 hit with hit | hit
    · exact hT.initLines p it hit
    · exact hT.txn _ _ hT.panelInitialised hT.panelLost it hit
  | pon a b =>
    intro it hit
    rcases List.mem_append.1 hit with hit | hit
    · split at hit <;> simp only [List.mem_cons, List.not_mem_nil, or_false] at hit
      rcases hit with rfl | rfl <;> exact hT.plain _
    · refine hT.writeRegisters _ _ ?_ it hit
      simp only [List.forall_mem_cons]
      exact ⟨hplain _, ⟨hT.comp (hT.panelSent _) hT.panelOn, hT.panelCut _⟩, List.forall_mem_nil _⟩
  | poff a b =>
    intro it hit
    rcases List.mem_append.1 hit with hit | hit
    · refine hT.writeRegisters _ _ ?_ it hit
      simp only [List.forall_mem_cons]
      exact ⟨hplain _, ⟨hT.comp hT.panelOff (hT.panelSent _), hT.panelCut _⟩, List.forall_mem_nil _⟩
    · split at hit <;> simp only [List.mem_cons, List.not_mem_nil, or_false] at hit
      rcases hit with rfl | rfl
      · exact hT.plain _
      · exact ⟨hT.panelLost, hT.id⟩
  | lum n b =>
    refine hT.writeRegisters _ _ ?_
    simp only [List.forall_mem_cons]
    exact ⟨hplain _, ⟨(hT.comp (hT.lumSent n) (hT.panelSent (lumValueWord n)) :),
      (hT.comp hT.lumCut (hT.panelCut (lumValueWord n)) :)⟩, List.forall_mem_nil _⟩
  | orb h v =>
    refine hT.writeRegisters _ _ ?_
    simp only [List.forall_mem_cons]
    exact ⟨⟨(hT.comp (hT.orbHSent h) (hT.panelSent (orbHWord h)) :), (hT.comp hT.orbHCut (hT.panelCut (orbHWord h)) :)⟩,
      ⟨(hT.comp (hT.orbVSent v) (hT.panelSent (orbVWord v)) :), (hT.comp hT.orbVCut (hT.panelCut (orbVWord v)) :)⟩,
      List.forall_mem_nil _⟩
  | probe a b =>
    refine hT.writeRegisters _ _ (List.forall_mem_map.2 fun w _ => ⟨hT.panelCut w, hT.panelCut w⟩)

end

/-! ### One event and its received byte (R103) -/

/-- No reply depends on a received byte. -/
theorem State.reply_eraseRx (s : State) (e : Event) : s.eraseRx.reply e = s.reply e := by
  have hanswer : s.eraseRx.answer = s.answer.eraseRx := by
    cases h : s.answers <;> simp [State.answer, State.eraseRx, h]
  rw [State.reply, hanswer, State.reply]
  cases s.answer <;> rfl

theorem State.popAnswer_eraseRx (s : State) : s.eraseRx.popAnswer = s.popAnswer.eraseRx := by
  simp [State.popAnswer, State.eraseRx, List.map_tail]

theorem State.offer_eraseRx (e : Event) (s : State) : s.eraseRx.offer e = (s.offer e).eraseRx := by
  rw [State.offer, State.popAnswer_eraseRx]
  rfl

theorem State.acknowledge_eraseRx (e : Event) (r : Reply) (s : State) :
    s.eraseRx.acknowledge e r = (s.acknowledge e r).eraseRx := by
  rw [State.acknowledge, State.popAnswer_eraseRx]
  rfl

/-- No state write of a command reads a received byte. -/
theorem writeClosed_eraseRx : WriteClosed fun f => ∀ s : State, f s.eraseRx = (f s).eraseRx where
  id _ := rfl
  comp hf hg s := by simp only [hg, hf]
  panelSent _ _ := rfl
  panelCut _ _ := rfl
  panelLost _ := rfl
  panelReset _ := rfl
  panelInitialised _ := rfl
  panelOn _ := rfl
  panelOff _ := rfl
  lumSent _ _ := rfl
  lumCut _ := rfl
  orbHSent _ _ := rfl
  orbHCut _ := rfl
  orbVSent _ _ := rfl
  orbVCut _ := rfl

/-! ### Runs -/

theorem runAbort_eraseRx (es : List Event) (k : Nat) (s : State) :
    runAbort k es s.eraseRx = (runAbort k es s).eraseRx := by
  induction es generalizing k s with
  | nil => rfl
  | cons e es ih =>
    simp only [runAbort, State.reply_eraseRx]
    cases s.reply e with
    | none => exact s.offer_eraseRx e
    | some r =>
      refine Eq.trans (congrArg (runAbort (k + 1) es) ?_) (ih _ _)
      rw [State.acknowledge_eraseRx]
      rfl

theorem runItems_eraseRx (items : List Item)
    (hi : ∀ it ∈ items, (∀ s : State, it.onAck s.eraseRx = (it.onAck s).eraseRx) ∧
      ∀ s : State, it.onFault s.eraseRx = (it.onFault s).eraseRx) (k : Nat) (s : State) :
    runItems k items s.eraseRx = (runItems k items s).eraseRx := by
  induction items generalizing k s with
  | nil => rfl
  | cons it rest ih =>
    obtain ⟨hack, hfault⟩ := hi it List.mem_cons_self
    simp only [runItems, State.reply_eraseRx]
    cases s.reply it.event with
    | none => exact s.offer_eraseRx _
    | some r =>
      cases r with
      | ok =>
        refine Eq.trans (congrArg (runItems _ rest) ?_) (ih (fun j hj => hi j (List.mem_cons_of_mem _ hj)) _ _)
        rw [State.acknowledge_eraseRx, ← hack]
        rfl
      | fault =>
        refine Eq.trans (congrArg (runAbort 0 _) ?_) (runAbort_eraseRx _ _ _)
        rw [State.acknowledge_eraseRx, hfault]
        rfl

theorem runCommand_eraseRx (p : Params) (i : Instr) (s : State) :
    runCommand (commandItems p i) s.eraseRx = (runCommand (commandItems p i) s).eraseRx := by
  have hi := writeClosed_eraseRx.commandItems p i
  have hbegin := runItems_eraseRx _ hi 0 s.start
  have hbusy : s.eraseRx.busy = s.busy := rfl
  have hseq : s.eraseRx.seq = s.seq := rfl
  simp only [runCommand, hbusy, hseq]
  cases s.busy with
  | false => exact hbegin
  | true =>
    cases s.seq with
    | idle => exact hbegin
    | running k => exact runItems_eraseRx _ (fun it hit => hi it (List.mem_of_mem_drop hit)) k s
    | aborting k => exact runAbort_eraseRx _ k s

theorem exec_eraseRx (i : Instr) (s : State) : exec i s.eraseRx = mapNext State.eraseRx (exec i s) := by
  cases h : wellFormed s.params i with
  | true =>
    rw [exec_eq_runCommand i s h, exec_eq_runCommand i s.eraseRx h]
    exact congrArg Host.Outcome.next (runCommand_eraseRx s.params i s)
  | false =>
    rw [exec_reserved i s h, exec_reserved i s.eraseRx h]
    rfl

/-! ### The choice of the step's work -/

/-- A choice of work with its state mapped. -/
def Selection.map (f : State → State) : Selection → Selection
  | .settle s => .settle (f s)
  | .run i s => .run i (f s)
  | .stop r => .stop r

theorem carryOn_eraseRx (s : State) : carryOn s.eraseRx = (carryOn s).map State.eraseRx := by
  have hcommand : s.eraseRx.command = s.command := rfl
  rw [carryOn, carryOn, hcommand]
  cases s.command <;> rfl

theorem quiet_eraseRx (s : State) : quiet s.eraseRx = (quiet s).map State.eraseRx := by
  have hbusy : s.eraseRx.busy = s.busy := rfl
  rw [quiet, quiet, hbusy]
  split
  · exact carryOn_eraseRx s
  · rfl

theorem take_eraseRx (w : CmdWord) (s : State) : take w s.eraseRx = (take w s).map State.eraseRx := by
  rw [take, take]
  cases decode w <;> rfl

/-- The host's move and the latches say what a step does; no received byte does. -/
theorem select_eraseRx (s : State) : select s.eraseRx = (select s).map State.eraseRx := by
  have hhost : s.eraseRx.host = s.host := rfl
  have hbusy : s.eraseRx.busy = s.busy := rfl
  rw [select, select, hhost, hbusy]
  cases s.host with
  | nil => exact quiet_eraseRx s.clearDone
  | cons m rest =>
    cases m with
    | pass => exact quiet_eraseRx s.clearDone.popHost
    | rst => rfl
    | present w =>
      cases s.busy with
      | true => exact carryOn_eraseRx s.clearDone
      | false => exact take_eraseRx w s.clearDone.popHost

/-- Settles O13: the step's work is chosen the same, and it runs the same, because each operation of a run commutes with
leaving the received bytes out. -/
theorem receivedBytesAreDiscarded : Obligations.ReceivedBytesAreDiscarded := by
  intro s
  rw [step, step, select_eraseRx]
  cases select s with
  | settle t => rfl
  | run i t => exact exec_eraseRx i t
  | stop r => rfl

end Sys2Proof.Machine
end

section
/-! PROOFS. Event lists (40_transport.md, 41_frame_protocol.md, 43_panel_controller.md): the shape of a transaction (O19),
words never coalesced (O20), what INIT guarantees (O35), counts and wait sums (O36), lines and durations (O37). -/

namespace Sys2Proof.Machine

/-! ### Positions in a list -/

theorem lt_length_of_getElem? {α : Type} {xs : List α} {x : α} {n : Nat} (h : xs[n]? = some x) : n < xs.length :=
  (List.getElem?_eq_some_iff.1 h).1

/-- What comes before an entry has as many entries as its position says. -/
theorem length_take_of_getElem? {α : Type} {xs : List α} {x : α} {n : Nat} (h : xs[n]? = some x) :
    (xs.take n).length = n := by
  rw [List.length_take, Nat.min_eq_left (lt_length_of_getElem? h).le]

theorem length_le_of_getElem?_append {α : Type} {xs ys : List α} {y : α} {n : Nat} (h : (xs ++ ys)[n]? = some y)
    (hy : y ∉ xs) : xs.length ≤ n := by
  by_contra hlt
  rw [List.getElem?_append_left (by omega)] at h
  exact hy (List.mem_of_getElem? h)

theorem lt_length_of_getElem?_append {α : Type} {xs ys : List α} {y : α} {n : Nat} (h : (xs ++ ys)[n]? = some y)
    (hy : y ∉ ys) : n < xs.length := by
  by_contra hle
  rw [List.getElem?_append_right (by omega)] at h
  exact hy (List.mem_of_getElem? h)

/-! ### Register words one after another (R124, R125) -/

theorem events_writeRegisters (t : Transport) (rs : List RegWrite) :
    (writeRegisters t rs).map Item.event = rs.flatMap fun r => wordEvents t (addrByte r.word) (valByte r.word) := by
  induction rs with
  | nil => rfl
  | cons r rs ih => rw [writeRegisters_cons, List.map_append, events_writeWord, ih, List.flatMap_cons]

theorem length_writeRegisters (t : Transport) (rs : List RegWrite) : (writeRegisters t rs).length = 7 * rs.length := by
  induction rs with
  | nil => rfl
  | cons r rs ih =>
    rw [writeRegisters_cons, List.length_append, length_writeWord, ih, List.length_cons]
    omega

/-- Settles O20: word by word, each word's transaction having its own seven events. -/
theorem wordsAreNeverCoalesced : Obligations.WordsAreNeverCoalesced :=
  fun t rs => ⟨events_writeRegisters t rs, length_writeRegisters t rs⟩

/-! ### The event list of each command (R161) -/

theorem commandEvents_at {p : Params} {i : Instr} {k : Nat} {it : Item} (h : (commandItems p i)[k]? = some it) :
    (commandEvents p i)[k]? = some it.event := by
  rw [commandEvents, List.getElem?_map, h]
  rfl

theorem take_commandEvents (p : Params) (i : Instr) (k : Nat) :
    (commandEvents p i).take k = ((commandItems p i).take k).map Item.event := List.map_take.symm

theorem drop_commandEvents (p : Params) (i : Instr) (k : Nat) :
    (commandEvents p i).drop k = ((commandItems p i).drop k).map Item.event := List.map_drop.symm

theorem commandEvents_init (p : Params) (a b : Byte) : commandEvents p (.init a b) = initEvents p := by
  rw [commandEvents, commandItems, initItems, List.map_append, burstWrite, events_txn]
  cases ht : p.transport <;> cases hp : p.hasPwr <;>
    simp [initLines, initEvents, ht, hp, Item.plain, powerLow, tReset]

theorem commandEvents_pon (p : Params) (a b : Byte) : commandEvents p (.pon a b) =
    (if p.hasPwr then [.setLine .pwr .high, .wait 16000] else [])
      ++ wordEvents p.transport 0x00 0x4D ++ wordEvents p.transport 0x00 0x4F := by
  rw [commandEvents, commandItems, ponItems, List.map_append, events_writeRegisters, List.append_assoc]
  cases p.hasPwr <;> rfl

theorem commandEvents_poff (p : Params) (a b : Byte) : commandEvents p (.poff a b) =
    wordEvents p.transport 0x00 0x4D ++ wordEvents p.transport 0x00 0x4C
      ++ (if p.hasPwr then [.wait 16000, .setLine .pwr .low] else []) := by
  rw [commandEvents, commandItems, poffItems, List.map_append, events_writeRegisters]
  cases p.hasPwr <;> rfl

theorem commandEvents_lum (p : Params) (n b : Byte) : commandEvents p (.lum n b) =
    wordEvents p.transport 0x11 0x07 ++ wordEvents p.transport 0x13 (BitVec.ofNat 8 (lumValue n)) := by
  rw [commandEvents, commandItems, lumItems, events_writeRegisters]
  simp [RegWrite.plain, lumWrite, lumEnableWord, lumValueWord]

theorem commandEvents_orb (p : Params) (h v : Byte) : commandEvents p (.orb h v) =
    wordEvents p.transport 0x02 (tc8 (orbValue h)) ++ wordEvents p.transport 0x03 (0x80 ||| tc8 (orbValue v)) := by
  rw [commandEvents, commandItems, orbItems, events_writeRegisters]
  simp [orbHWrite, orbVWrite, orbHWord, orbVWord]

theorem commandEvents_probe (p : Params) (a b : Byte) : commandEvents p (.probe a b) =
    (probeSequence p.probeWords).flatMap fun w => wordEvents p.transport (addrByte w) (valByte w) := by
  rw [commandEvents, commandItems, probeItems, events_writeRegisters, List.flatMap_map]
  rfl

/-! ### Wait sums, bytes and lengths (R165, R177) -/

theorem waitSum_append (es fs : List Event) : waitSum (es ++ fs) = waitSum es + waitSum fs := by
  induction es with
  | nil => simp [waitSum]
  | cons e es ih => cases e <;> simp [waitSum, ih, Nat.add_assoc]

@[simp] theorem waitSum_map_xfer (bs : List Byte) : waitSum (bs.map Event.xfer) = 0 := by
  induction bs with
  | nil => rfl
  | cons b bs ih => exact ih

@[simp] theorem xferBytes_map_xfer (bs : List Byte) : xferBytes (bs.map Event.xfer) = bs := by
  induction bs with
  | nil => rfl
  | cons b bs ih => exact congrArg (b :: ·) ih

@[simp] theorem length_wordEvents (t : Transport) (a v : Byte) : (wordEvents t a v).length = 7 := rfl

@[simp] theorem waitSum_wordEvents (t : Transport) (a v : Byte) :
    waitSum (wordEvents t a v) = if t = .bitbang then 600 else 1002 := by
  cases t <;> rfl

theorem waitSum_initEvents (p : Params) :
    waitSum (initEvents p) = if p.transport = .bitbang then 48600 else 49002 := by
  cases ht : p.transport <;> cases hp : p.hasPwr <;>
    simp [initEvents, ht, hp, waitSum, waitSum_append, tSettle, tIdle]

theorem length_initEvents (p : Params) : (initEvents p).length =
    (if p.transport = .bitbang then 14 else 12) + (if p.hasPwr then 1 else 0) + p.initTable.length := by
  cases ht : p.transport <;> cases hp : p.hasPwr <;> simp [initEvents, ht, hp] <;> omega

theorem xferBytes_initEvents (p : Params) : xferBytes (initEvents p) = p.initTable := by
  cases ht : p.transport <;> cases hp : p.hasPwr <;> simp [initEvents, ht, hp, xferBytes, xferBytes_append]

/-- Settles O36: each command's list is written out, and its numbers are those of its parts. -/
theorem eventCountsAndWaitSums : Obligations.EventCountsAndWaitSums := by
  intro p x y
  simp only [commandEvents_init, commandEvents_pon, commandEvents_poff, commandEvents_lum, commandEvents_orb,
    commandEvents_probe, length_initEvents, waitSum_initEvents, xferBytes_initEvents, probeSequence]
  refine ⟨trivial, trivial, trivial, ?_⟩
  cases p.transport <;> cases p.hasPwr <;> simp [waitSum_append, waitSum]

/-! ### Lines and durations (R8, R101, R102, R221) -/

/-- What an event of a command's list can be. -/
inductive EventOf (p : Params) (i : Instr) : Event → Prop where
  | chipSelect (level : Level) : EventOf p i (.setLine .cs level)
  | byte (b : Byte) : EventOf p i (.xfer b)
  | settle : EventOf p i (.wait (tSettle p.transport))
  | gap : EventOf p i (.wait (tIdle p.transport))
  | pause : EventOf p i (.wait 16000)
  | data (h : p.transport = .bitbang) (level : Level) : EventOf p i (.setLine .data level)
  | clk (h : p.transport = .bitbang) (level : Level) : EventOf p i (.setLine .clk level)
  | power (h : p.hasPwr = true) (level : Level) : EventOf p i (.setLine .pwr level)
  | reset (h : ∃ a b, i = .init a b) (level : Level) : EventOf p i (.setLine .rst level)

theorem mem_wordEvents {t : Transport} {a v : Byte} {e : Event} (h : e ∈ wordEvents t a v) :
    (∃ level, e = .setLine .cs level) ∨ (∃ b, e = .xfer b) ∨ e = .wait (tSettle t) ∨ e = .wait (tIdle t) := by
  simp only [wordEvents, List.mem_cons, List.not_mem_nil, or_false] at h
  rcases h with rfl | rfl | rfl | rfl | rfl | rfl | rfl <;> simp

theorem EventOf.of_mem_wordEvents {p : Params} {i : Instr} {a v : Byte} {e : Event}
    (h : e ∈ wordEvents p.transport a v) : EventOf p i e := by
  obtain ⟨level, rfl⟩ | ⟨b, rfl⟩ | rfl | rfl := mem_wordEvents h
  · exact .chipSelect level
  · exact .byte b
  · exact .settle
  · exact .gap

theorem EventOf.of_mem_initEvents {p : Params} {a b : Byte} {e : Event} (h : e ∈ initEvents p) :
    EventOf p (.init a b) e := by
  simp only [initEvents, List.flatten_cons, List.flatten_nil, List.append_nil, List.mem_append, List.mem_cons,
    List.mem_map, List.not_mem_nil, or_false] at h
  rcases h with h | (rfl | rfl) | h | (rfl | rfl | rfl | rfl | rfl) | (rfl | rfl) | ⟨b, -, rfl⟩ | rfl | rfl | rfl
  · cases ht : p.transport <;> simp only [ht, List.mem_cons, List.not_mem_nil, or_false] at h
    rcases h with rfl | rfl
    · exact .data ht _
    · exact .clk ht _
  · exact .reset ⟨a, b, rfl⟩ _
  · exact .chipSelect _
  · split at h <;> simp only [List.mem_cons, List.not_mem_nil, or_false] at h
    next hp => exact h ▸ .power hp _
  · exact .pause
  · exact .reset ⟨a, b, rfl⟩ _
  · exact .pause
  · exact .reset ⟨a, b, rfl⟩ _
  · exact .pause
  · exact .chipSelect _
  · exact .settle
  · exact .byte b
  · exact .settle
  · exact .chipSelect _
  · exact .gap

theorem EventOf.of_mem {p : Params} {i : Instr} {e : Event} (h : e ∈ commandEvents p i) : EventOf p i e := by
  have hpower {e₁ e₂ : Event} (h₁ : p.hasPwr = true → EventOf p i e₁) (h₂ : p.hasPwr = true → EventOf p i e₂)
      (he : e ∈ if p.hasPwr then [e₁, e₂] else []) : EventOf p i e := by
    split at he
    · next hp =>
      simp only [List.mem_cons, List.not_mem_nil, or_false] at he
      obtain rfl | rfl := he
      · exact h₁ hp
      · exact h₂ hp
    · exact absurd he List.not_mem_nil
  cases i with
  | init a b => exact .of_mem_initEvents (commandEvents_init p a b ▸ h)
  | pon a b =>
    rw [commandEvents_pon, List.mem_append, List.mem_append] at h
    obtain (h | h) | h := h
    · exact hpower (.power · _) (fun _ => .pause) h
    all_goals exact .of_mem_wordEvents h
  | poff a b =>
    rw [commandEvents_poff, List.mem_append, List.mem_append] at h
    obtain (h | h) | h := h
    · exact .of_mem_wordEvents h
    · exact .of_mem_wordEvents h
    · exact hpower (fun _ => .pause) (.power · _) h
  | lum n b =>
    rw [commandEvents_lum, List.mem_append] at h
    exact h.elim .of_mem_wordEvents .of_mem_wordEvents
  | orb h' v =>
    rw [commandEvents_orb, List.mem_append] at h
    exact h.elim .of_mem_wordEvents .of_mem_wordEvents
  | probe a b =>
    rw [commandEvents_probe, List.mem_flatMap] at h
    obtain ⟨w, -, h⟩ := h
    exact .of_mem_wordEvents h

/-- Settles O37: by what an event of a command's list can be. -/
theorem eventsUseExistingLinesAndDurations : Obligations.EventsUseExistingLinesAndDurations := by
  intro p i e he
  cases EventOf.of_mem he <;> simp_all

/-! ### What INIT guarantees (R167) -/

/-- INIT's events before it releases reset. -/
def initBefore (p : Params) : List Event :=
  (match p.transport with
    | .bitbang => [.setLine .data .low, .setLine .clk .low]
    | .hwspi => [])
  ++ [.setLine .rst .low, .setLine .cs .high] ++ (if p.hasPwr then [.setLine .pwr .low] else [])
  ++ [.wait 16000, .setLine .rst .low, .wait 16000]

/-- INIT's events after the wait that follows the release of reset: the burst. -/
def initBurst (p : Params) : List Event :=
  [.setLine .cs .low, .wait (tSettle p.transport)] ++ p.initTable.map Event.xfer
    ++ [.wait (tSettle p.transport), .setLine .cs .high, .wait (tIdle p.transport)]

theorem commandEvents_init_split (p : Params) (a b : Byte) :
    commandEvents p (.init a b) = initBefore p ++ .setLine .rst .high :: .wait 16000 :: initBurst p := by
  rw [commandEvents_init]
  cases ht : p.transport <;> cases hp : p.hasPwr <;> simp [initEvents, initBefore, initBurst, ht, hp]

/-- Before the release no byte goes out, chip-select is not asserted, and reset is not released. -/
theorem not_mem_initBefore (p : Params) : .setLine .rst .high ∉ initBefore p ∧ .setLine .cs .low ∉ initBefore p ∧
    ∀ x, .xfer x ∉ initBefore p := by
  unfold initBefore
  cases p.transport <;> cases p.hasPwr <;> simp

theorem rst_not_mem_initBurst (p : Params) : .setLine .rst .high ∉ initBurst p := by
  simp [initBurst]

/-- Before the release reset is asserted, two waits follow, and chip-select is driven high. -/
theorem initBefore_positions (p : Params) :
    (∃ j k l, j < k ∧ k < l ∧ l < (initBefore p).length ∧ (initBefore p)[j]? = some (.setLine .rst .low) ∧
      (initBefore p)[k]? = some (.wait 16000) ∧ (initBefore p)[l]? = some (.wait 16000)) ∧
    ∃ j, j < (initBefore p).length ∧ (initBefore p)[j]? = some (.setLine .cs .high) := by
  unfold initBefore
  cases p.transport <;> cases p.hasPwr
  · exact ⟨⟨2, 4, 6, by decide⟩, 3, by decide⟩
  · exact ⟨⟨2, 5, 7, by decide⟩, 3, by decide⟩
  · exact ⟨⟨0, 2, 4, by decide⟩, 1, by decide⟩
  · exact ⟨⟨0, 3, 5, by decide⟩, 1, by decide⟩

/-- Settles O35: the list is what comes before the release, the release, a wait, and the burst, and each clause says in which
of these parts an event can stand. -/
theorem initNeverWritesBeforeReady : Obligations.InitNeverWritesBeforeReady := by
  intro p a b
  obtain ⟨hrst, hcs, hxfer⟩ := not_mem_initBefore p
  obtain ⟨⟨j, k, l, hjk, hkl, hl, hj, hk, hl'⟩, c, hc, hc'⟩ := initBefore_positions p
  have hbefore {n : Nat} (hn : n < (initBefore p).length) :
      (commandEvents p (.init a b))[n]? = (initBefore p)[n]? := by
    rw [commandEvents_init_split, List.getElem?_append_left hn]
  have hrel : (commandEvents p (.init a b))[(initBefore p).length]? = some (.setLine .rst .high) := by
    simp [commandEvents_init_split]
  have hwait : (commandEvents p (.init a b))[(initBefore p).length + 1]? = some (.wait 16000) := by
    simp [commandEvents_init_split]
  have hafter {m : Nat} {e : Event} (hm : (commandEvents p (.init a b))[m]? = some e) (he : e ∉ initBefore p)
      (hne : e ≠ .setLine .rst .high) : (initBefore p).length < m := by
    refine lt_of_le_of_ne (length_le_of_getElem?_append (commandEvents_init_split p a b ▸ hm) he) fun heq => hne ?_
    rw [← heq, hrel] at hm
    exact (Option.some.inj hm).symm
  refine ⟨(initBefore p).length, hrel, fun m hm => ?_, fun m x hm => ?_,
    ⟨j, k, l, hjk, hkl, hl, ?_, ?_, ?_⟩, ⟨c, hc, ?_⟩, fun m hm => hafter hm hcs (by simp)⟩
  · have hge := length_le_of_getElem?_append (commandEvents_init_split p a b ▸ hm) hrst
    rw [commandEvents_init_split, List.append_cons] at hm
    have hlt := lt_length_of_getElem?_append hm (by simpa using rst_not_mem_initBurst p)
    rw [List.length_append, List.length_singleton] at hlt
    omega
  · have hlt := hafter hm (hxfer x) (by simp)
    refine ⟨_, Nat.lt_succ_self _, lt_of_le_of_ne hlt fun heq => ?_, hwait⟩
    rw [← heq, hwait] at hm
    cases hm
  · rw [hbefore (by omega), hj]
  · rw [hbefore (by omega), hk]
  · rw [hbefore (by omega), hl']
  · rw [hbefore hc, hc']

/-! ### The shape of a transaction (R121 to R123) -/

theorem count_map_xfer (id : LineId) (level : Level) (bs : List Byte) :
    (bs.map Event.xfer).count (.setLine id level) = 0 :=
  List.count_eq_zero.2 (by simp)

/-- The transaction's events by their positions: the bytes stand between the two settle waits. -/
theorem txn_byte_position {t : Transport} {bs : List Byte} {done cut : State → State} {n : Nat} {b : Byte}
    (h : ((txn t bs done cut).map Item.event)[n]? = some (.xfer b)) : 2 ≤ n ∧ n < bs.length + 2 := by
  rw [events_txn] at h
  have hlt := lt_length_of_getElem?_append h (by simp)
  rw [List.append_assoc] at h
  have hge := length_le_of_getElem?_append h (by simp)
  simp only [List.length_append, List.length_map, List.length_cons, List.length_nil] at hlt hge
  omega

/-- The levels on DATA of a byte's bits, most significant first (R52). -/
theorem byteLevels_eq (b : Byte) : byteLevels b = (List.range 8).map fun n => some (bitLevel (b.getLsbD (7 - n))) := by
  rw [byteLevels, byteBits_bitOrder, List.map_map]
  rfl

theorem none_not_mem_flatMap_byteLevels (bs : List Byte) : none ∉ bs.flatMap byteLevels := by
  simp [byteLevels]

/-- The waveform of bytes one after another: the clock idles between them, so each is sampled as if it stood alone. -/
theorem waveform_map_xfer {p : Params} {table : List (List ShiftEvent)} {idle edge : Level} (hs : p.shift = some table)
    (ht : shiftTableOk idle edge table = true) (bs : List Byte) :
    ∃ xs, waveform p (bs.map Event.xfer) = some xs ∧ clockAfter idle xs = idle ∧
      samples edge none idle xs = bs.flatMap byteLevels := by
  induction bs with
  | nil => exact ⟨[], rfl, rfl, rfl⟩
  | cons b bs ih =>
    obtain ⟨ys, hys, hclk, hsam⟩ := ih
    obtain ⟨es, hes, hsam', hclk'⟩ := shiftTableOk_byte ht b
    have hshift : shiftOf p b = some es := by rw [shiftOf, hs]; exact hes
    have hknown : samples edge (dataAfter none es) idle ys = samples edge none idle ys :=
      samples_known _ _ _ _ (hsam ▸ none_not_mem_flatMap_byteLevels bs)
    refine ⟨es ++ ys, ?_, ?_, ?_⟩
    · rw [List.map_cons, waveform, hshift, hys]
    · rw [clockAfter_append, hclk', hclk]
    · rw [samples_append, hclk', hknown, hsam, hsam', List.flatMap_cons]

/-- Only the bytes of a transaction put events on DATA and CLK. -/
theorem waveform_txn (p : Params) (t : Transport) (bs : List Byte) (done cut : State → State) :
    waveform p ((txn t bs done cut).map Item.event) = waveform p (bs.map Event.xfer) := by
  rw [events_txn, waveform_append, waveform_append]
  cases waveform p (bs.map Event.xfer) <;> simp [waveform]

/-- Settles O19: the first part by the transaction's list; the second byte by byte along the waveform. -/
theorem transactionShape : Obligations.TransactionShape := by
  refine ⟨fun t bs done cut => ?_, fun p table hp hs => ?_⟩
  · have hevents := events_txn t bs done cut
    refine ⟨?_, ?_, ?_, ?_, ?_, ?_, ?_, ?_, ?_, fun n b => txn_byte_position⟩
    all_goals rw [burstWrite, hevents]
    · simp only [List.length_append, List.length_map, List.length_cons, List.length_nil]
      omega
    · simp [xferBytes, xferBytes_append]
    · simp [count_map_xfer]
    · simp [count_map_xfer]
    · rfl
    · rfl
    all_goals simp
  · obtain ⟨ht, idle, edge, htable⟩ := shift_of_wf hp hs
    refine ⟨ht, idle, edge, fun bs done cut => ?_⟩
    obtain ⟨xs, hxs, hclk, hsam⟩ := waveform_map_xfer hs htable bs
    refine ⟨xs, (waveform_txn p _ bs done cut).trans hxs, hclk, hsam.trans ?_⟩
    exact List.flatMap_congr fun b _ => byteLevels_eq b

end Sys2Proof.Machine
end

section
/-! PROOFS. The state invariant: it holds after reset (O52), every step keeps it (O53), under it no step stops (O54), and the
status outputs hold the shadows (O55). -/

namespace Sys2Proof.Machine

/-! ### The part of the invariant that no position of the sequencer enters -/

/-- The clauses of the invariant about parameters, shadows, panel image, line latches and flags. -/
structure State.Sound (p : Params) (s : State) : Prop where
  params : s.params = p
  pregWf : s.preg.wf
  lumRange : ∀ n, s.lum = some n → 5 ≤ n ∧ n ≤ 100
  orbHRange : ∀ x, s.orbH = some x → -10 ≤ x ∧ x ≤ 10
  orbVRange : ∀ x, s.orbV = some x → -10 ≤ x ∧ x ≤ 10
  noDataClk : p.transport = .hwspi → s.lines.data = none ∧ s.lines.clk = none
  noPwr : p.hasPwr = false → s.lines.pwr = none
  faultRecord : s.faultSeen = false → s.status ≠ .fault
  shadowsBeforeInit : s.pstate = .uninit ∨ s.pstate = .reset → s.lum = none ∧ s.orbH = none ∧ s.orbV = none

theorem State.Inv.sound {s : State} (h : s.Inv) : s.Sound s.params where
  params := rfl
  pregWf := h.pregWf
  lumRange := h.lumRange
  orbHRange := h.orbHRange
  orbVRange := h.orbVRange
  noDataClk := h.noDataClk
  noPwr := h.noPwr
  faultRecord := h.faultRecord
  shadowsBeforeInit := h.shadowsBeforeInit

/-- With the clauses about the sequencer's position a sound state meets the invariant. -/
theorem State.Sound.inv {p : Params} {s : State} (h : s.Sound p) (hp : p.wf = true)
    (hbusy : s.busy = true ↔ s.seq ≠ .idle) (hflight : s.busy = true → s.InFlight)
    (hidle : s.busy = false → s.port = none) : s.Inv := by
  obtain ⟨rfl, hpreg, hlum, horbH, horbV, hdata, hpwr, hfault, hshadows⟩ := h
  exact ⟨hp, hbusy, hflight, hidle, hpreg, hlum, horbH, horbV, hdata, hpwr, hfault, hshadows⟩

/-! ### State writes keep the sound part -/

/-- A shadow takes its new value only in ACTIVE, so a value in it is the new one. -/
theorem eq_of_ite_some {α : Type} {c : Prop} [Decidable c] {x y : α} (h : (if c then some x else none) = some y) :
    x = y := by
  split at h
  · exact Option.some.inj h
  · cases h

/-- Not in ACTIVE, a shadow that is written loses its value. -/
theorem ite_active_eq_none {α : Type} {q : PState} (h : q = .uninit ∨ q = .reset) (x : α) :
    (if q = .active then some x else none) = none := by
  rcases h with rfl | rfl <;> rfl

/-- PON and POFF leave UNINIT and RESET only for states in which the shadows are free. -/
theorem PState.afterPon_early {q : PState} (h : q.afterPon = .uninit ∨ q.afterPon = .reset) :
    q = .uninit ∨ q = .reset := by
  cases q <;> simp_all [PState.afterPon]

theorem PState.afterPoff_early {q : PState} (h : q.afterPoff = .uninit ∨ q.afterPoff = .reset) :
    q = .uninit ∨ q = .reset := by
  cases q <;> simp_all [PState.afterPoff]

theorem writeClosed_sound (p : Params) : WriteClosed fun f => ∀ s : State, s.Sound p → (f s).Sound p where
  id _ h := h
  comp hf hg s h := hf _ (hg s h)
  panelSent w _ h := { h with pregWf := Memory.wf_set h.pregWf _ _ }
  panelCut w _ h := { h with pregWf := Memory.wf_erase h.pregWf _ }
  panelLost _ h := { h with pregWf := Memory.wf_nil }
  panelReset _ h := { h with
    pregWf := Memory.wf_nil
    lumRange := nofun
    orbHRange := nofun
    orbVRange := nofun
    shadowsBeforeInit := fun _ => ⟨rfl, rfl, rfl⟩ }
  panelInitialised _ h := { h with
    pregWf := Memory.wf_burstImage _
    lumRange := fun n hn => by cases hn; decide
    orbHRange := fun x hx => by cases hx; decide
    orbVRange := fun x hx => by cases hx; decide
    shadowsBeforeInit := nofun }
  panelOn _ h := { h with shadowsBeforeInit := fun hq => h.shadowsBeforeInit (PState.afterPon_early hq) }
  panelOff _ h := { h with shadowsBeforeInit := fun hq => h.shadowsBeforeInit (PState.afterPoff_early hq) }
  lumSent n _ h := { h with
    lumRange := fun m hm => eq_of_ite_some hm ▸ lumValue_mem n
    shadowsBeforeInit := fun hq => ⟨ite_active_eq_none hq _, (h.shadowsBeforeInit hq).2⟩ }
  lumCut _ h := { h with
    lumRange := nofun
    shadowsBeforeInit := fun hq => ⟨rfl, (h.shadowsBeforeInit hq).2⟩ }
  orbHSent b _ h := { h with
    orbHRange := fun x hx => eq_of_ite_some hx ▸ orbValue_mem b
    shadowsBeforeInit := fun hq =>
      ⟨(h.shadowsBeforeInit hq).1, ite_active_eq_none hq _, (h.shadowsBeforeInit hq).2.2⟩ }
  orbHCut _ h := { h with
    orbHRange := nofun
    shadowsBeforeInit := fun hq => ⟨(h.shadowsBeforeInit hq).1, rfl, (h.shadowsBeforeInit hq).2.2⟩ }
  orbVSent b _ h := { h with
    orbVRange := fun x hx => eq_of_ite_some hx ▸ orbValue_mem b
    shadowsBeforeInit := fun hq =>
      ⟨(h.shadowsBeforeInit hq).1, (h.shadowsBeforeInit hq).2.1, ite_active_eq_none hq _⟩ }
  orbVCut _ h := { h with
    orbVRange := nofun
    shadowsBeforeInit := fun hq => ⟨(h.shadowsBeforeInit hq).1, (h.shadowsBeforeInit hq).2.1, rfl⟩ }

/-! ### The run keeps the sound part -/

/-- A `SetLine` of this event drives a line that exists (R8). -/
def Event.LineExists (p : Params) (e : Event) : Prop :=
  (∀ level, e = .setLine .data level → p.transport = .bitbang) ∧
  (∀ level, e = .setLine .clk level → p.transport = .bitbang) ∧ ∀ level, e = .setLine .pwr level → p.hasPwr = true

theorem lineExists_of_mem {p : Params} {i : Instr} {e : Event} (h : e ∈ commandEvents p i) : e.LineExists p := by
  obtain ⟨hdata, hclk, hpwr, -⟩ := eventsUseExistingLinesAndDurations p i e h
  exact ⟨hdata, hclk, hpwr⟩

/-- An acknowledged event leaves the latch of a line it does not drive. -/
theorem Lines.get_afterEvent (l : Lines) {id : LineId} {e : Event} (r : Reply) (h : ∀ level, e ≠ .setLine id level) :
    (l.afterEvent e r).get id = l.get id := by
  cases e with
  | setLine j level =>
    have hj : id ≠ j := fun hj => h level (hj ▸ rfl)
    cases r <;> cases j <;> cases id <;> simp_all [Lines.afterEvent, Lines.set, Lines.get]
  | wait d => rfl
  | xfer b => rfl

theorem runClosed_sound (p : Params) : RunClosed (Event.LineExists p) (State.Sound p) where
  abortLine := ⟨nofun, nofun, nofun⟩
  abortWait _ := ⟨nofun, nofun, nofun⟩
  offer _ _ _ h := { h with }
  acknowledge e r s he h := by
    obtain ⟨hdata, hclk, hpwr⟩ := he
    refine { h with noDataClk := fun ht => ?_, noPwr := fun hp => ?_ }
    · have hbb : p.transport ≠ .bitbang := by rw [ht]; decide
      have hd := s.lines.get_afterEvent (id := .data) (e := e) r fun level he => hbb (hdata level he)
      have hc := s.lines.get_afterEvent (id := .clk) (e := e) r fun level he => hbb (hclk level he)
      obtain ⟨hd', hc'⟩ := h.noDataClk ht
      exact ⟨hd.trans hd', hc.trans hc'⟩
    · have hno : p.hasPwr ≠ true := by rw [hp]; decide
      exact (s.lines.get_afterEvent (id := .pwr) r fun level he => hno (hpwr level he)).trans (h.noPwr hp)
  moveTo _ _ h := { h with }
  enterAbort _ h := { h with }
  complete _ h := { h with faultRecord := fun _ => nofun }
  completeFault _ h := { h with faultRecord := nofun }

theorem State.Sound.exec {p : Params} {i : Instr} {s t : State} (h : s.Sound p) (ht : exec i s = .next t) :
    t.Sound p := by
  obtain ⟨-, rfl⟩ | ⟨-, rfl⟩ := exec_cases ht
  · rw [h.params]
    refine runCommand_keeps (runClosed_sound p) (fun u hu => { hu with }) _ (fun it hit => ⟨?_, fun u hu => ?_⟩) s h
    · exact lineExists_of_mem (i := i) (List.mem_map_of_mem hit)
    · obtain ⟨hack, hfault⟩ := (writeClosed_sound p).commandItems p i it hit
      exact ⟨hack u hu, hfault u hu⟩
  · exact { h with faultRecord := fun _ => nofun }

/-! ### Where the sequencer stands after a command -/

/-- A command that is begun or carried on ends idle or waiting at an event it offers. `hpos` says where it can be asked for:
at its beginning with nothing offered, or at an event of its own. -/
theorem runCommand_end (items : List Item) (hl : ∀ it ∈ items, it.Lawful) (s : State)
    (hb : s.busy = true) (hpos : (s.seq = .running 0 ∧ s.port = none) ∨
      (∃ k, s.seq = .running k ∧ k < items.length) ∨ ∃ k, s.seq = .aborting k ∧ k < 2) :
    RunEnd (items.map Item.event) (abortEvents s.params.transport) (runCommand items s) := by
  obtain ⟨hs, hp⟩ | ⟨k, hs, hk⟩ | ⟨k, hs, hk⟩ := hpos <;> simp only [runCommand, hb, hs]
  · exact runItems_end items hl 0 s hb hs (.inr hp)
  · exact runItems_end items hl k s hb hs (.inl hk)
  · exact runAbort_end _ _ k s hb hs (.inl hk)

theorem RunEnd.busy_iff {es ab : List Event} {t : State} (h : RunEnd es ab t) : t.busy = true ↔ t.seq ≠ .idle := by
  cases h with
  | completed hb hs hp => simp [hb, hs]
  | waits k e hb hs hp he => simp [hb, hs]
  | waitsAborting k e hb hs hp he => simp [hb, hs]

theorem RunEnd.port_of_idle {es ab : List Event} {t : State} (h : RunEnd es ab t) (hb : t.busy = false) :
    t.port = none := by
  cases h with
  | completed _ hs hp => exact hp
  | waits k e hb' hs hp he => simp [hb'] at hb
  | waitsAborting k e hb' hs hp he => simp [hb'] at hb

theorem RunEnd.inFlight {i : Instr} {t : State}
    (h : RunEnd (commandEvents t.params i) (abortEvents t.params.transport) t) (hc : t.command = some i)
    (hw : wellFormed t.params i = true) (hb : t.busy = true) : t.InFlight := by
  cases h with
  | completed hb' hs hp => simp [hb'] at hb
  | waits k e _ hs hp he => exact ⟨i, e, hc, hw, hp, .inl ⟨k, hs, he⟩⟩
  | waitsAborting k e _ hs hp he => exact ⟨i, e, hc, hw, hp, .inr ⟨k, hs, he⟩⟩

/-! ### What no command changes -/

/-- What a run, a tame state write and the completion as ILLEGAL keep, every command keeps. -/
theorem exec_keeps {P : State → Prop} (hP : RunClosed (fun _ => True) P) (hstart : ∀ s, P s → P s.start)
    (htame : ∀ f, Tame f → ∀ s, P s → P (f s)) (hillegal : ∀ s, P s → P s.completeIllegal) {i : Instr} {s t : State}
    (h : exec i s = .next t) (hs : P s) : P t := by
  obtain ⟨-, rfl⟩ | ⟨-, rfl⟩ := exec_cases h
  · refine runCommand_keeps hP hstart _ (fun it hit => ⟨trivial, fun u hu => ?_⟩) s hs
    obtain ⟨hack, hfault⟩ := lawful_commandItems s.params i it hit
    exact ⟨htame _ hack u hu, htame _ hfault u hu⟩
  · exact hillegal s hs

/-- The parameters, the command's latches and the host's moves are the same, and the Transport's standing answer. -/
structure SameCommand (s t : State) : Prop where
  params : t.params = s.params
  op : t.op = s.op
  argA : t.argA = s.argA
  argB : t.argB = s.argB
  host : t.host = s.host
  answerRest : t.answerRest = s.answerRest

theorem runClosed_sameCommand (s : State) : RunClosed (fun _ => True) (SameCommand s) where
  abortLine := trivial
  abortWait _ := trivial
  offer _ _ _ h := { h with }
  acknowledge _ _ _ _ h := { h with }
  moveTo _ _ h := { h with }
  enterAbort _ h := { h with }
  complete _ h := { h with }
  completeFault _ h := { h with }

theorem Tame.sameCommand {f : State → State} (hf : Tame f) {s u : State} (h : SameCommand s u) :
    SameCommand s (f u) where
  params := (hf.params u).trans h.params
  op := (hf.op u).trans h.op
  argA := (hf.argA u).trans h.argA
  argB := (hf.argB u).trans h.argB
  host := (hf.host u).trans h.host
  answerRest := (hf.answerRest u).trans h.answerRest

theorem exec_sameCommand {i : Instr} {s t : State} (h : exec i s = .next t) : SameCommand s t :=
  exec_keeps (runClosed_sameCommand s) (fun _ hu => { hu with }) (fun _ hf _ hu => hf.sameCommand hu)
    (fun _ hu => { hu with }) h ⟨rfl, rfl, rfl, rfl, rfl, rfl⟩

theorem SameCommand.command {s t : State} (h : SameCommand s t) : t.command = s.command := by
  simp only [State.command, h.op, h.argA, h.argB]

/-! ### The invariant along `exec` and `step` -/

/-- Where a command can be asked for: just accepted, or in flight. -/
def State.Asked (i : Instr) (s : State) : Prop :=
  s.busy = true ∧ s.command = some i ∧
    ((s.seq = .running 0 ∧ s.port = none) ∨ wellFormed s.params i = true ∧
      ((∃ k, s.seq = .running k ∧ k < (commandEvents s.params i).length) ∨ ∃ k, s.seq = .aborting k ∧ k < 2))

theorem State.InFlight.asked {i : Instr} {s : State} (h : s.InFlight) (hb : s.busy = true) (hc : s.command = some i) :
    s.Asked i := by
  obtain ⟨j, e, hj, hw, -, hpos⟩ := h
  cases hj.symm.trans hc
  refine ⟨hb, hc, .inr ⟨hw, ?_⟩⟩
  obtain ⟨k, hs, hk⟩ | ⟨k, hs, hk⟩ := hpos
  · exact .inl ⟨k, hs, (List.getElem?_eq_some_iff.1 hk).1⟩
  · exact .inr ⟨k, hs, (List.getElem?_eq_some_iff.1 hk).1⟩

/-- The latches of a word just accepted hold its command (R22, R72). -/
theorem command_accept {w : CmdWord} {i : Instr} (h : decode w = .ok i) (s : State) : (s.accept w).command = some i := by
  simp [State.command, cmdWord_fields, decode?, h]

theorem exec_inv {i : Instr} {s t : State} (hs : s.Sound s.params) (hp : s.params.wf = true) (hi : s.Asked i)
    (h : exec i s = .next t) : t.Inv := by
  obtain ⟨hb, hc, hpos⟩ := hi
  have hsound := hs.exec h
  have hsame := exec_sameCommand h
  obtain ⟨hw, ht⟩ | ⟨hw, rfl⟩ := exec_cases h
  · have hend : RunEnd (commandEvents t.params i) (abortEvents t.params.transport) t := by
      rw [hsame.params, ht]
      refine runCommand_end _ (lawful_commandItems s.params i) s hb (hpos.imp_right ?_)
      rintro ⟨-, hpos⟩
      simpa [commandEvents] using hpos
    exact hsound.inv hp hend.busy_iff (hend.inFlight (hsame.command.trans hc) (hsame.params ▸ hw)) hend.port_of_idle
  · have hport : s.port = none := by
      obtain ⟨-, hport⟩ | ⟨hw', -⟩ := hpos
      · exact hport
      · rw [hw] at hw'; cases hw'
    exact hsound.inv hp (by simp) (by simp) fun _ => hport

theorem QuietFrom.busy {s u : State} (hu : QuietFrom s u) : u.busy = s.busy := by
  rcases hu with rfl | rfl <;> rfl

theorem QuietFrom.command {s u : State} (hu : QuietFrom s u) : u.command = s.command := by
  rcases hu with rfl | rfl <;> rfl

/-- A command in flight is asked for when it is carried on. -/
theorem QuietFrom.asked {s u : State} {i : Instr} (hu : QuietFrom s u) (h : u.Inv) (hb : s.busy = true)
    (hc : s.command = some i) : u.Asked i :=
  (h.flight (hu.busy.trans hb)).asked (hu.busy.trans hb) (hu.command.trans hc)

/-- A word that decodes is asked for when an idle block has accepted it. -/
theorem State.Inv.asked_accept {s : State} {w : CmdWord} {i : Instr} (h : s.Inv) (hb : s.busy = false)
    (hd : decode w = .ok i) : (s.clearDone.popHost.accept w).Asked i :=
  ⟨rfl, command_accept hd _, .inl ⟨rfl, h.idlePort hb⟩⟩

/-- The invariant is about neither `done` nor the host's moves. -/
theorem QuietFrom.inv {s u : State} (hu : QuietFrom s u) (h : s.Inv) : u.Inv := by
  obtain ⟨ms, rfl⟩ := hu.exists_host
  exact { h with }

theorem sound_blockReset (s : State) : s.blockReset.Sound s.params where
  params := rfl
  pregWf := Memory.wf_nil
  lumRange := nofun
  orbHRange := nofun
  orbVRange := nofun
  noDataClk _ := ⟨rfl, rfl⟩
  noPwr _ := rfl
  faultRecord _ := nofun
  shadowsBeforeInit _ := ⟨rfl, rfl, rfl⟩

/-- A word just accepted by an idle block: nothing else has changed yet. -/
theorem State.Inv.accept {s : State} (h : s.Inv) (w : CmdWord) : (s.clearDone.popHost.accept w).Sound s.params :=
  { h.sound with }

/-- Settles O53: block reset gives a state of the invariant; a quiet step keeps it; a command that is accepted or in flight
ends idle or waiting at an event it offers, and its run keeps the rest. -/
theorem invariantKeptByEveryStep : Obligations.InvariantKeptByEveryStep := by
  intro s t hinv hstep
  obtain ⟨rest, -, rfl⟩ | ⟨u, hu, -, rfl⟩ | ⟨u, i, hu, hb, hc, he⟩ | ⟨w, rest, i, -, hb, hd, he⟩ |
    ⟨w, rest, op, -, hb, -, rfl⟩ := step_cases hstep
  · exact (sound_blockReset s.popHost).inv hinv.paramsWf (by simp) (by simp) fun _ => rfl
  · exact hu.inv hinv
  · have hinvu := hu.inv hinv
    exact exec_inv hinvu.sound hinvu.paramsWf (hu.asked hinvu hb hc) he
  · exact exec_inv (s := s.clearDone.popHost.accept w) (hinv.accept w) hinv.paramsWf (hinv.asked_accept hb hd) he
  · have hsound : (s.clearDone.popHost.accept w).completeIllegal.Sound s.params :=
      { hinv.accept w with faultRecord := fun _ => nofun }
    exact hsound.inv hinv.paramsWf (by simp) (by simp) fun _ => hinv.idlePort hb

/-- Settles O52: reset is a block reset of the state after reset. -/
theorem invariantAtReset : Obligations.InvariantAtReset :=
  (sound_blockReset State.reset).inv (by decide) (by decide) nofun fun _ => rfl

/-! ### No step stops (93, "the block's own behaviour is total") -/

theorem exists_step_of_select {s : State} (h : ∀ r, select s ≠ .stop r) : ∃ t, step s = .next t := by
  rw [step]
  cases hsel : select s with
  | settle t => exact ⟨t, rfl⟩
  | run i u => exact exec_next i u
  | stop r => exact absurd hsel (h r)

theorem take_ne_stop (w : CmdWord) (s : State) (r : Fault) : take w s ≠ .stop r := by
  unfold take
  split <;> nofun

/-- Settles O54: a busy block's latches hold a command, so no choice of work is the stop. -/
theorem invariantStepNeverStops : Obligations.InvariantStepNeverStops := by
  intro s hinv
  refine exists_step_of_select fun r => ?_
  have hcarry {u : State} (hb : s.busy = true) (hc : u.command = s.command) : carryOn u ≠ .stop r := by
    obtain ⟨i, -, hi, -⟩ := hinv.flight hb
    rw [carryOn_of_command (hc.trans hi)]
    nofun
  have hquiet {u : State} (hb : u.busy = s.busy) (hc : u.command = s.command) : quiet u ≠ .stop r := by
    rw [quiet, hb]
    split
    · next hb => exact hcarry hb hc
    · nofun
  unfold select
  split
  · exact hquiet rfl rfl
  · exact hquiet rfl rfl
  · nofun
  · split
    · next hb => exact hcarry hb rfl
    · exact take_ne_stop _ _ r

/-! ### The status outputs (R23, R232) -/

/-- An optional number read back from a width that holds it. -/
theorem map_map_eq_self {α β : Type} {f : α → β} {g : β → α} {x : Option α} (h : ∀ a, x = some a → g (f a) = a) :
    (x.map f).map g = x := by
  cases x with
  | none => rfl
  | some a => exact congrArg some (h a rfl)

theorem toInt_ofInt_five {x : Int} (h : -10 ≤ x ∧ x ≤ 10) : (BitVec.ofInt 5 x).toInt = x := by
  rw [BitVec.toInt_ofInt, Int.bmod_def]
  norm_num
  split <;> omega

/-- Settles O55: 5 to 100 fits in seven bits, and -10 to 10 in five. -/
theorem statusOutputsHoldTheShadows : Obligations.StatusOutputsHoldTheShadows := by
  intro s h
  refine ⟨map_map_eq_self fun n hn => ?_, map_map_eq_self fun x hx => toInt_ofInt_five (h.orbHRange x hx),
    map_map_eq_self fun x hx => toInt_ofInt_five (h.orbVRange x hx)⟩
  have := h.lumRange n hn
  rw [BitVec.toNat_ofNat]
  omega

end Sys2Proof.Machine
end

section
/-! PROOFS. How to prove something of every run of a command: one condition before each event of its list, one before each
event of the abort procedure, and what they give where the run ends. -/

namespace Sys2Proof.Machine

/-- A proof outline for the run of `items` with the abort procedure `ab`: `R k` holds before event `k` of the list, `A k`
before event `k` of the abort procedure, and `Q` where the run ends: waiting at an event, completed, or aborted. -/
structure RunProof (items : List Item) (ab : List Event) (R A : Nat → State → Prop) (Q : State → Prop) : Prop where
  offer : ∀ {k it s}, items[k]? = some it → R k s → Q (s.offer it.event)
  ack : ∀ {k it s}, items[k]? = some it → R k s →
    R (k + 1) (it.onAck ((s.acknowledge it.event .ok).moveTo (.running (k + 1))))
  fault : ∀ {k it s}, items[k]? = some it → s.reply it.event = some .fault → R k s →
    abortEvents s.params.transport = ab ∧ A 0 (it.onFault (s.acknowledge it.event .fault)).enterAbort
  complete : ∀ {k s}, items.length ≤ k → R k s → Q (s.complete .ok)
  offerAbort : ∀ {k e s}, ab[k]? = some e → A k s → Q (s.offer e)
  ackAbort : ∀ {k e s} r, ab[k]? = some e → A k s → A (k + 1) ((s.acknowledge e r).moveTo (.aborting (k + 1)))
  completeFault : ∀ {k s}, ab.length ≤ k → A k s → Q s.completeFault

section
variable {items : List Item} {ab : List Event} {R A : Nat → State → Prop} {Q : State → Prop}

theorem RunProof.runAbort (h : RunProof items ab R A Q) (k : Nat) (s : State) (hs : A k s) :
    Q (runAbort k (ab.drop k) s) := by
  generalize hd : ab.drop k = rest
  induction rest generalizing k s with
  | nil => exact h.completeFault (List.drop_eq_nil_iff.1 hd) hs
  | cons e rest ih =>
    obtain ⟨he, hd'⟩ := getElem?_of_drop_eq_cons hd
    simp only [Machine.runAbort]
    split
    · exact h.offerAbort he hs
    · exact ih _ _ (h.ackAbort _ he hs) hd'

theorem RunProof.runItems (h : RunProof items ab R A Q) (k : Nat) (s : State) (hs : R k s) :
    Q (runItems k (items.drop k) s) := by
  generalize hd : items.drop k = rest
  induction rest generalizing k s with
  | nil => exact h.complete (List.drop_eq_nil_iff.1 hd) hs
  | cons it rest ih =>
    obtain ⟨hit, hd'⟩ := getElem?_of_drop_eq_cons hd
    simp only [Machine.runItems]
    split
    · exact h.offer hit hs
    · exact ih _ _ (h.ack hit hs) hd'
    · next hr =>
      obtain ⟨hab, hA⟩ := h.fault hit hr hs
      rw [hab]
      exact h.runAbort 0 _ hA

/-- The same for a whole command: at its beginning, inside its list, inside the abort procedure. -/
theorem RunProof.runCommand (h : RunProof items ab R A Q) {s : State} (hab : abortEvents s.params.transport = ab)
    (hstart : s.busy = false ∨ s.seq = .idle → R 0 s.start)
    (hrunning : ∀ k, s.busy = true → s.seq = .running k → R k s)
    (haborting : ∀ k, s.busy = true → s.seq = .aborting k → A k s) : Q (runCommand items s) := by
  unfold Machine.runCommand
  split
  · next hb hs => exact h.runItems _ s (hrunning _ hb hs)
  · next hb hs => exact hab ▸ h.runAbort _ s (haborting _ hb hs)
  · next hs => exact h.runItems 0 _ (hstart (.inr hs))
  · next hb => exact h.runItems 0 _ (hstart (.inl hb))

end

end Sys2Proof.Machine
end

section
/-! PROOFS. The bus discipline (20_memory.md R62, 41_frame_protocol.md R121, R122): it holds after reset (O56), every step
keeps it (O57), and what it means for assertions of chip-select (O58) and for bytes (O59). -/

namespace Sys2Proof.Machine

/-! ### The bus along a trace -/

theorem busRun_append (t : Transport) (ph : BusPhase) (xs ys : List TraceEntry) :
    busRun t ph (xs ++ ys) = (busRun t ph xs).bind fun ph' => busRun t ph' ys := by
  induction xs generalizing ph with
  | nil => rfl
  | cons x xs ih =>
    simp only [List.cons_append, busRun]
    cases busNext t ph x with
    | none => rfl
    | some ph' => exact ih ph'

theorem busRun_singleton (t : Transport) (ph : BusPhase) (x : TraceEntry) : busRun t ph [x] = busNext t ph x := by
  simp only [busRun]
  cases busNext t ph x <;> rfl

/-- A trace that keeps the discipline kept it before its last entry. -/
theorem busRun_concat {t : Transport} {ph ph' : BusPhase} {tr : List TraceEntry} {x : TraceEntry}
    (h : busRun t ph (tr ++ [x]) = some ph') : ∃ q, busRun t ph tr = some q ∧ busNext t q x = some ph' := by
  rw [busRun_append, Option.bind_eq_some_iff] at h
  obtain ⟨q, hq, hx⟩ := h
  exact ⟨q, hq, busRun_singleton t q x ▸ hx⟩

/-- A trace that keeps the discipline kept it up to each of its entries. -/
theorem busRun_at {t : Transport} {ph : BusPhase} {tr : List TraceEntry} {k : Nat} {x : TraceEntry}
    (h : busRun t ph tr ≠ none) (hk : tr[k]? = some x) :
    ∃ q q', busRun t ph (tr.take k) = some q ∧ busNext t q x = some q' := by
  have hsplit : tr = tr.take (k + 1) ++ tr.drop (k + 1) := (List.take_append_drop _ _).symm
  have htake : tr.take (k + 1) = tr.take k ++ [x] := by rw [List.take_add_one, hk]; rfl
  rw [hsplit, busRun_append, htake] at h
  obtain ⟨z, hz⟩ := Option.ne_none_iff_exists'.1 h
  obtain ⟨q', hq', -⟩ := Option.bind_eq_some_iff.1 hz
  obtain ⟨q, hq, hx⟩ := busRun_concat hq'
  exact ⟨q, q', hq, hx⟩

/-! ### Every command's list keeps the discipline (R121, R122) -/

/-- Acknowledged without fault these events keep the discipline, from an idle bus to an idle bus. -/
def Disciplined (t : Transport) (es : List Event) : Prop := busRun t .gapped (okEntries es) = some .gapped

theorem Disciplined.append {t : Transport} {es fs : List Event} (he : Disciplined t es) (hf : Disciplined t fs) :
    Disciplined t (es ++ fs) := by
  rw [Disciplined, okEntries_append, busRun_append, he]
  exact hf

theorem disciplined_wordEvents (t : Transport) (a v : Byte) : Disciplined t (wordEvents t a v) := by
  cases t <;> rfl

theorem busRun_opened_map_xfer (t : Transport) (bs : List Byte) :
    busRun t .opened (okEntries (bs.map Event.xfer)) = some .opened := by
  induction bs with
  | nil => rfl
  | cons b bs ih => exact ih

theorem disciplined_initBurst (p : Params) : Disciplined p.transport (initBurst p) := by
  rw [Disciplined, initBurst, okEntries_append, okEntries_append, busRun_append, busRun_append]
  have hopen : busRun p.transport .gapped (okEntries [.setLine .cs .low, .wait (tSettle p.transport)]) = some .opened := by
    cases p.transport <;> rfl
  rw [hopen, Option.bind_some, busRun_opened_map_xfer]
  cases p.transport <;> rfl

theorem disciplined_flatMap {α : Type} {t : Transport} {f : α → List Event} (xs : List α)
    (h : ∀ x, Disciplined t (f x)) : Disciplined t (xs.flatMap f) := by
  induction xs with
  | nil => rfl
  | cons x xs ih => exact (h x).append ih

theorem disciplined_commandEvents (p : Params) (i : Instr) : Disciplined p.transport (commandEvents p i) := by
  have hword (a v : Byte) := disciplined_wordEvents p.transport a v
  have hpower (es : List Event) (h : Disciplined p.transport es) :
      Disciplined p.transport (if p.hasPwr then es else []) := by
    split
    · exact h
    · rfl
  cases i with
  | init a b =>
    have hbefore : Disciplined p.transport (initBefore p ++ [.setLine .rst .high, .wait 16000]) := by
      unfold initBefore
      cases p.transport <;> cases p.hasPwr <;> rfl
    rw [commandEvents_init_split, List.append_cons, List.append_cons, List.append_assoc (initBefore p)]
    exact hbefore.append (disciplined_initBurst p)
  | pon a b =>
    rw [commandEvents_pon]
    exact ((hpower [.setLine .pwr .high, .wait 16000] rfl).append (hword _ _)).append (hword _ _)
  | poff a b =>
    rw [commandEvents_poff]
    exact ((hword _ _).append (hword _ _)).append (hpower [.wait 16000, .setLine .pwr .low] rfl)
  | lum n b =>
    rw [commandEvents_lum]
    exact (hword _ _).append (hword _ _)
  | orb h v =>
    rw [commandEvents_orb]
    exact (hword _ _).append (hword _ _)
  | probe a b =>
    rw [commandEvents_probe]
    exact disciplined_flatMap _ fun w => hword _ _

/-! ### Faults and the abort procedure (R196) -/

/-- Where the bus can stand before each event of the abort procedure, and at its end. -/
def abortPhases : Nat → List BusPhase
  | 0 => [.gapped, .released, .cut]
  | 1 => [.released]
  | _ => [.gapped]

/-- Where an event may go out, its fault leaves the bus where the abort procedure can begin. -/
theorem busNext_fault {t : Transport} {ph ph' : BusPhase} {e : Event} (h : busNext t ph ⟨e, .ok⟩ = some ph')
    (hwait : ∀ d, e ≠ .wait d) : ∃ q ∈ abortPhases 0, busNext t ph ⟨e, .fault⟩ = some q := by
  cases e with
  | wait d => exact absurd rfl (hwait d)
  | xfer b => cases ph <;> simp_all [busNext, abortPhases]
  | setLine id level => cases ph <;> cases id <;> cases level <;> simp_all [busNext, abortPhases]

/-- The abort procedure's own events, however they are acknowledged, lead the bus back to idle. -/
theorem busNext_abort {t : Transport} {k : Nat} {e : Event} {ph : BusPhase} (hk : (abortEvents t)[k]? = some e)
    (hph : ph ∈ abortPhases k) (r : Reply) : ∃ q ∈ abortPhases (k + 1), busNext t ph ⟨e, r⟩ = some q := by
  match k with
  | 0 =>
    cases hk
    simp only [abortPhases, List.mem_cons, List.not_mem_nil, or_false] at hph
    rcases hph with rfl | rfl | rfl <;> exact ⟨.released, List.mem_singleton.2 rfl, rfl⟩
  | 1 =>
    cases hk
    cases List.mem_singleton.1 hph
    exact ⟨.gapped, List.mem_singleton.2 rfl, by simp [busNext]⟩
  | k + 2 => simp [abortEvents] at hk

/-! ### The discipline along a command -/

theorem State.busPhase_congr {s t : State} (hp : t.params = s.params) (ht : t.trace = s.trace) :
    t.busPhase = s.busPhase := by
  simp only [State.busPhase, hp, ht]

theorem State.busPhase_acknowledge {s : State} {ph : BusPhase} (h : s.busPhase = some ph) (e : Event) (r : Reply) :
    (s.acknowledge e r).busPhase = busNext s.params.transport ph ⟨e, r⟩ := by
  have hbus : busRun s.params.transport .gapped s.trace = some ph := h
  rw [State.busPhase, State.acknowledge_params, State.acknowledge_trace, busRun_append, hbus]
  exact busRun_singleton _ _ _

/-- Before event `k` of the command's list: the bus stands where the events before it lead. -/
structure BusBefore (i : Instr) (p : Params) (k : Nat) (s : State) : Prop where
  params : s.params = p
  command : s.command = some i
  seq : s.seq = .running k
  phase : ∃ ph, s.busPhase = some ph ∧ busRun p.transport .gapped (okEntries ((commandEvents p i).take k)) = some ph

/-- Before event `k` of the abort procedure. -/
structure BusAborting (p : Params) (k : Nat) (s : State) : Prop where
  params : s.params = p
  seq : s.seq = .aborting k
  phase : ∃ ph ∈ abortPhases k, s.busPhase = some ph

theorem BusBefore.busInv {i : Instr} {p : Params} {k : Nat} {s : State} (h : BusBefore i p k s) : s.BusInv := by
  obtain ⟨rfl, hc, hs, ph, hph, hrun⟩ := h
  rw [State.BusInv, hs]
  exact ⟨i, ph, hc, hph, hrun⟩

theorem BusAborting.busInv {p : Params} {k : Nat} {s : State} (h : BusAborting p k s) (hk : k < 2) : s.BusInv := by
  obtain ⟨-, hs, ph, hmem, hph⟩ := h
  rw [State.BusInv, hs]
  match k with
  | 0 => simpa [abortPhases, hph] using hmem
  | 1 => simpa [abortPhases, hph] using hmem

theorem busInv_of_idle {s : State} (hs : s.seq = .idle) (hph : s.busPhase = some .gapped) : s.BusInv := by
  rw [State.BusInv, hs]
  exact hph

/-- Where event `k` of the list may go out, and where it leads the bus when it is acknowledged without fault. -/
theorem BusBefore.next {i : Instr} {p : Params} {k : Nat} {s : State} {e : Event} (h : BusBefore i p k s)
    (he : (commandEvents p i)[k]? = some e) : ∃ ph ph', s.busPhase = some ph ∧
      busNext p.transport ph ⟨e, .ok⟩ = some ph' ∧
      busRun p.transport .gapped (okEntries ((commandEvents p i).take (k + 1))) = some ph' := by
  obtain ⟨ph, hph, hrun⟩ := h.phase
  have hall : busRun p.transport .gapped (okEntries (commandEvents p i)) ≠ none := by
    rw [disciplined_commandEvents p i]; nofun
  have hk : (okEntries (commandEvents p i))[k]? = some ⟨e, .ok⟩ := by rw [okEntries, List.getElem?_map, he]; rfl
  obtain ⟨q, q', hq, hq'⟩ := busRun_at hall hk
  have htake : (okEntries (commandEvents p i)).take k = okEntries ((commandEvents p i).take k) := List.map_take.symm
  rw [htake, hrun] at hq
  cases hq
  refine ⟨ph, q', hph, hq', ?_⟩
  rw [List.take_add_one, he, okEntries_append, busRun_append, hrun]
  exact (busRun_singleton _ _ _).trans hq'

theorem Tame.command {f : State → State} (hf : Tame f) (s : State) : (f s).command = s.command := by
  simp only [State.command, hf.op, hf.argA, hf.argB]

theorem Tame.busPhase {f : State → State} (hf : Tame f) (s : State) : (f s).busPhase = s.busPhase :=
  State.busPhase_congr (hf.params s) (hf.trace s)

/-- The proof outline of the discipline for the run of a command. -/
theorem busProof (p : Params) (i : Instr) :
    RunProof (commandItems p i) (abortEvents p.transport) (BusBefore i p) (BusAborting p) State.BusInv where
  offer _ h := BusBefore.busInv ⟨h.params, h.command, h.seq, h.phase⟩
  ack := by
    intro k it s hit h
    have hack := (lawful_commandItems p i it (List.mem_of_getElem? hit)).1
    obtain ⟨ph, ph', hph, hnext, hrun⟩ := h.next (commandEvents_at hit)
    refine ⟨(hack.params _).trans h.params, (hack.command _).trans h.command, hack.seq _, ph', ?_, hrun⟩
    rw [hack.busPhase]
    exact (State.busPhase_acknowledge hph _ _).trans (h.params ▸ hnext)
  fault := by
    intro k it s hit hr h
    have hfault := (lawful_commandItems p i it (List.mem_of_getElem? hit)).2
    obtain ⟨ph, ph', hph, hnext, -⟩ := h.next (commandEvents_at hit)
    obtain ⟨q, hmem, hq⟩ := busNext_fault hnext fun d hd => s.reply_wait_ne_fault d (hd ▸ hr)
    refine ⟨h.params ▸ rfl, (hfault.params _).trans h.params, rfl, q, hmem, ?_⟩
    refine (hfault.busPhase _).trans ((State.busPhase_acknowledge hph _ _).trans (h.params ▸ hq))
  complete := by
    intro k s hk h
    obtain ⟨ph, hph, hrun⟩ := h.phase
    rw [List.take_of_length_le (by simpa [commandEvents] using hk), disciplined_commandEvents p i] at hrun
    cases hrun
    exact busInv_of_idle rfl hph
  offerAbort hk h := BusAborting.busInv ⟨h.params, h.seq, h.phase⟩ (List.getElem?_eq_some_iff.1 hk).1
  ackAbort := by
    intro k e s r hk h
    obtain ⟨ph, hmem, hph⟩ := h.phase
    obtain ⟨q, hmem', hq⟩ := busNext_abort hk hmem r
    exact ⟨h.params, rfl, q, hmem', (State.busPhase_acknowledge hph e r).trans (h.params ▸ hq)⟩
  completeFault := by
    intro k s hk h
    obtain ⟨ph, hmem, hph⟩ := h.phase
    obtain ⟨n, rfl⟩ := Nat.exists_eq_add_of_le' hk
    cases List.mem_singleton.1 hmem
    exact busInv_of_idle rfl hph

/-- What the discipline says of a state in which a command is asked for. -/
theorem State.BusInv.before {i : Instr} {k : Nat} {s : State} (h : s.BusInv) (hc : s.command = some i)
    (hs : s.seq = .running k) : BusBefore i s.params k s := by
  rw [State.BusInv, hs] at h
  obtain ⟨j, ph, hj, hph, hrun⟩ := h
  cases hj.symm.trans hc
  exact ⟨rfl, hc, hs, ph, hph, hrun⟩

theorem State.BusInv.aborting {k : Nat} {s : State} (h : s.BusInv) (hs : s.seq = .aborting k) :
    BusAborting s.params k s := by
  rw [State.BusInv, hs] at h
  refine ⟨rfl, hs, ?_⟩
  match k with
  | 0 => simpa [abortPhases] using h
  | 1 => simpa [abortPhases] using h
  | k + 2 => exact h.elim

theorem exec_busInv {i : Instr} {s t : State} (hi : s.Asked i) (h : s.BusInv) (ht : exec i s = .next t) : t.BusInv := by
  obtain ⟨hb, hc, hpos⟩ := hi
  have hidle : s.seq ≠ .idle := by rcases hpos with ⟨hs, -⟩ | ⟨-, ⟨k, hs, -⟩ | ⟨k, hs, -⟩⟩ <;> simp [hs]
  obtain ⟨-, rfl⟩ | ⟨hw, rfl⟩ := exec_cases ht
  · refine (busProof s.params i).runCommand rfl (fun h' => ?_) (fun k _ hs => h.before hc hs) fun k _ hs => h.aborting hs
    exact absurd h' (not_or.2 ⟨by simp [hb], hidle⟩)
  · have hs : s.seq = .running 0 := by
      obtain ⟨hs, -⟩ | ⟨hw', -⟩ := hpos
      · exact hs
      · rw [hw] at hw'; cases hw'
    obtain ⟨ph, hph, hrun⟩ := (h.before hc hs).phase
    cases hrun
    exact busInv_of_idle rfl hph

/-! ### The discipline along `step` -/

theorem QuietFrom.busInv {s u : State} (hu : QuietFrom s u) (h : s.BusInv) : u.BusInv := by
  obtain ⟨ms, rfl⟩ := hu.exists_host
  exact h

/-- An idle block's bus stands idle (R62). -/
theorem State.BusInv.busPhase_of_idle {s : State} (h : s.BusInv) (hs : s.seq = .idle) : s.busPhase = some .gapped := by
  rw [State.BusInv, hs] at h
  exact h

/-- Settles O57: a step that runs no command leaves the trace or empties it; one that runs a command keeps the discipline by
the proof outline `busProof`. -/
theorem busDisciplineKeptByEveryStep : Obligations.BusDisciplineKeptByEveryStep := by
  intro s t hinv hbus hstep
  have hidle (hb : s.busy = false) : s.busPhase = some .gapped :=
    hbus.busPhase_of_idle (by_contra fun hs => by simp [hinv.busySeq.2 hs] at hb)
  obtain ⟨rest, -, rfl⟩ | ⟨u, hu, -, rfl⟩ | ⟨u, i, hu, hb, hc, he⟩ | ⟨w, rest, i, -, hb, hd, he⟩ |
    ⟨w, rest, op, -, hb, -, rfl⟩ := step_cases hstep
  · exact busInv_of_idle rfl rfl
  · exact hu.busInv hbus
  · exact exec_busInv (hu.asked (hu.inv hinv) hb hc) (hu.busInv hbus) he
  · refine exec_busInv (s := s.clearDone.popHost.accept w) (hinv.asked_accept hb hd) ?_ he
    exact ⟨i, .gapped, command_accept hd _, hidle hb, rfl⟩
  · exact busInv_of_idle rfl (hidle hb)

/-- Settles O56. -/
theorem busDisciplineAtReset : Obligations.BusDisciplineAtReset := busInv_of_idle rfl rfl

/-! ### What the discipline means (V12 items 2 and 3) -/

/-- An entry of a longer trace is the new one or one of the entries before. -/
theorem getElem?_concat {α : Type} {xs : List α} {x y : α} {n : Nat} (h : (xs ++ [x])[n]? = some y) :
    xs[n]? = some y ∨ n = xs.length ∧ x = y := by
  rcases Nat.lt_or_ge n xs.length with hn | hn
  · exact .inl (List.getElem?_append_left hn ▸ h)
  · rw [List.getElem?_append_right hn, List.getElem?_singleton] at h
    split at h
    · next h0 => exact .inr ⟨by omega, Option.some.inj h⟩
    · cases h

theorem getElem?_append_of_some {α : Type} {xs : List α} {y : α} {n : Nat} (h : xs[n]? = some y) (ys : List α) :
    (xs ++ ys)[n]? = some y := by
  rw [List.getElem?_append_left (List.getElem?_eq_some_iff.1 h).1, h]

/-- After entry `i` chip-select is deasserted. -/
def ReleasedAfter (tr : List TraceEntry) (i : Nat) : Prop :=
  ∃ m r, i < m ∧ tr[m]? = some ⟨.setLine .cs .high, r⟩

/-- After entry `i` chip-select is deasserted and then the idle window waited. -/
def GappedAfter (t : Transport) (tr : List TraceEntry) (i : Nat) : Prop :=
  ∃ m n d r r', i < m ∧ m < n ∧ tr[m]? = some ⟨.setLine .cs .high, r⟩ ∧ tr[n]? = some ⟨.wait d, r'⟩ ∧ tIdle t ≤ d

theorem ReleasedAfter.append {tr : List TraceEntry} {i : Nat} (h : ReleasedAfter tr i) (ys : List TraceEntry) :
    ReleasedAfter (tr ++ ys) i := by
  obtain ⟨m, r, hi, hm⟩ := h
  exact ⟨m, r, hi, getElem?_append_of_some hm ys⟩

theorem GappedAfter.append {t : Transport} {tr : List TraceEntry} {i : Nat} (h : GappedAfter t tr i)
    (ys : List TraceEntry) : GappedAfter t (tr ++ ys) i := by
  obtain ⟨m, n, d, r, r', hi, hmn, hm, hn, hd⟩ := h
  exact ⟨m, n, d, r, r', hi, hmn, getElem?_append_of_some hm ys, getElem?_append_of_some hn ys, hd⟩

/-- Chip-select is asserted on an idle bus alone, and the bus is not idle then. -/
theorem busNext_assert {t : Transport} {ph ph' : BusPhase} {r : Reply}
    (h : busNext t ph ⟨.setLine .cs .low, r⟩ = some ph') : ph = .gapped ∧ ph' ≠ .gapped ∧ ph' ≠ .released := by
  cases ph <;> cases r <;> simp_all [busNext] <;> simp [← h]

/-- How the bus becomes idle, or stays so. -/
theorem busNext_gapped {t : Transport} {ph : BusPhase} {x : TraceEntry} (h : busNext t ph x = some .gapped) :
    ph = .gapped ∨ ph = .released ∧ ∃ d r, x = ⟨.wait d, r⟩ ∧ tIdle t ≤ d := by
  obtain ⟨e, r⟩ := x
  unfold busNext at h
  split at h <;> simp_all

/-- How chip-select becomes released, or stays so. -/
theorem busNext_released {t : Transport} {ph : BusPhase} {x : TraceEntry} (h : busNext t ph x = some .released) :
    ph = .released ∨ ∃ r, x = ⟨.setLine .cs .high, r⟩ := by
  obtain ⟨e, r⟩ := x
  unfold busNext at h
  split at h <;> simp_all

/-- Of every assertion in the trace: on an idle bus it was ended and the idle window waited; on a released bus it was
ended. -/
theorem separated_of_busRun {t : Transport} {tr : List TraceEntry} {ph : BusPhase}
    (h : busRun t .gapped tr = some ph) {i : Nat} {r : Reply} (hi : tr[i]? = some ⟨.setLine .cs .low, r⟩) :
    (ph = .gapped → GappedAfter t tr i) ∧ (ph = .released → ReleasedAfter tr i) := by
  induction tr using List.reverseRecOn generalizing ph with
  | nil => cases hi
  | append_singleton tr x ih =>
    obtain ⟨q, hq, hx⟩ := busRun_concat h
    obtain hi | ⟨-, rfl⟩ := getElem?_concat hi
    · obtain ⟨hgapped, hreleased⟩ := ih hq hi
      have hlt := lt_length_of_getElem? hi
      constructor <;> rintro rfl
      · obtain rfl | ⟨rfl, d, r', rfl, hd⟩ := busNext_gapped hx
        · exact (hgapped rfl).append _
        · obtain ⟨m, r'', him, hm⟩ := hreleased rfl
          exact ⟨m, tr.length, d, r'', r', him, lt_length_of_getElem? hm, getElem?_append_of_some hm _,
            List.getElem?_concat_length, hd⟩
      · obtain rfl | ⟨r', rfl⟩ := busNext_released hx
        · exact (hreleased rfl).append _
        · exact ⟨tr.length, r', hlt, List.getElem?_concat_length⟩
    · obtain ⟨-, hg, hr⟩ := busNext_assert hx
      exact ⟨fun h => absurd h hg, fun h => absurd h hr⟩

/-- Settles O58: the later assertion finds the bus idle, so the earlier one was ended and the idle window waited. -/
theorem disciplineSeparatesAssertions : Obligations.DisciplineSeparatesAssertions := by
  intro t tr h i j ri rj hij hi hj
  obtain ⟨q, q', hq, hx⟩ := busRun_at h hj
  obtain ⟨rfl, -⟩ := busNext_assert hx
  have hi' : (tr.take j)[i]? = some ⟨.setLine .cs .low, ri⟩ := by rw [List.getElem?_take_of_lt hij, hi]
  obtain ⟨m, n, d, r, r', him, hmn, hm, hn, hd⟩ := (separated_of_busRun hq hi').1 rfl
  have hnj : n < j := by
    have := lt_length_of_getElem? hn
    rw [List.length_take] at this
    omega
  rw [List.getElem?_take_of_lt (by omega)] at hm hn
  exact ⟨m, n, d, r, r', him, hmn, hnj, hm, hn, hd⟩

/-- Entry `m` asserts chip-select, acknowledged, and chip-select is not driven after it. -/
def AssertedAt (tr : List TraceEntry) (m : Nat) : Prop :=
  tr[m]? = some ⟨.setLine .cs .low, .ok⟩ ∧ ∀ j level x, m < j → tr[j]? ≠ some ⟨.setLine .cs level, x⟩

theorem AssertedAt.concat {tr : List TraceEntry} {m : Nat} (h : AssertedAt tr m) {y : TraceEntry}
    (hy : ∀ level x, y ≠ ⟨.setLine .cs level, x⟩) : AssertedAt (tr ++ [y]) m := by
  obtain ⟨hm, hcs⟩ := h
  refine ⟨getElem?_append_of_some hm _, fun j level x hmj hj => ?_⟩
  obtain hj | ⟨-, rfl⟩ := getElem?_concat hj
  · exact hcs j level x hmj hj
  · exact hy level x rfl

theorem assertedAt_length (tr : List TraceEntry) :
    AssertedAt (tr ++ [⟨.setLine .cs .low, .ok⟩]) tr.length := by
  refine ⟨List.getElem?_concat_length, fun j level x hj h => ?_⟩
  have := lt_length_of_getElem? h
  rw [List.length_append, List.length_singleton] at this
  omega

/-- How the bus becomes asserted. -/
theorem busNext_asserted {t : Transport} {ph : BusPhase} {x : TraceEntry} (h : busNext t ph x = some .asserted) :
    x = ⟨.setLine .cs .low, .ok⟩ := by
  obtain ⟨e, r⟩ := x
  unfold busNext at h
  split at h <;> simp_all

/-- How the bus becomes open for bytes, or stays so. -/
theorem busNext_opened {t : Transport} {ph : BusPhase} {x : TraceEntry} (h : busNext t ph x = some .opened) :
    (ph = .asserted ∧ ∃ d r, x = ⟨.wait d, r⟩ ∧ tSettle t ≤ d) ∨ ph = .opened ∧ ∃ b r, x = ⟨.xfer b, r⟩ := by
  obtain ⟨e, r⟩ := x
  unfold busNext at h
  split at h <;> simp_all

/-- A byte goes out on an open bus alone. -/
theorem busNext_xfer {t : Transport} {ph ph' : BusPhase} {b : Byte} {r : Reply}
    (h : busNext t ph ⟨.xfer b, r⟩ = some ph') : ph = .opened := by
  cases ph <;> simp_all [busNext]

/-- On an asserted bus the last drive of chip-select is an acknowledged assertion; on an open one the settle time has been
waited after it. -/
theorem asserted_of_busRun {t : Transport} {tr : List TraceEntry} {ph : BusPhase} (h : busRun t .gapped tr = some ph) :
    (ph = .asserted → ∃ m, AssertedAt tr m) ∧
    (ph = .opened → ∃ m n d r, m < n ∧ AssertedAt tr m ∧ tr[n]? = some ⟨.wait d, r⟩ ∧ tSettle t ≤ d) := by
  induction tr using List.reverseRecOn generalizing ph with
  | nil => cases h; exact ⟨nofun, nofun⟩
  | append_singleton tr x ih =>
    obtain ⟨q, hq, hx⟩ := busRun_concat h
    obtain ⟨hasserted, hopened⟩ := ih hq
    constructor <;> rintro rfl
    · obtain rfl := busNext_asserted hx
      exact ⟨_, assertedAt_length tr⟩
    · obtain ⟨rfl, d, r, rfl, hd⟩ | ⟨rfl, b, r, rfl⟩ := busNext_opened hx
      · obtain ⟨m, hm⟩ := hasserted rfl
        exact ⟨m, tr.length, d, r, lt_length_of_getElem? hm.1, hm.concat (by simp), List.getElem?_concat_length, hd⟩
      · obtain ⟨m, n, d, r', hmn, hm, hn, hd⟩ := hopened rfl
        exact ⟨m, n, d, r', hmn, hm.concat (by simp), getElem?_append_of_some hn _, hd⟩

/-- Settles O59: the byte finds the bus open. -/
theorem disciplineEnclosesBytes : Obligations.DisciplineEnclosesBytes := by
  intro t tr h i b r hi
  obtain ⟨q, q', hq, hx⟩ := busRun_at h hi
  cases busNext_xfer hx
  obtain ⟨m, n, d, r', hmn, ⟨hm, hcs⟩, hn, hd⟩ := (asserted_of_busRun hq).2 rfl
  have hni : n < i := by
    have := lt_length_of_getElem? hn
    rw [List.length_take] at this
    omega
  rw [List.getElem?_take_of_lt (by omega)] at hm hn
  refine ⟨m, n, d, r', hmn, hni, hm, hn, hd, fun j level x hmj hji hj => hcs j level x hmj ?_⟩
  rw [List.getElem?_take_of_lt hji, hj]

end Sys2Proof.Machine
end

section
/-! PROOFS. The command port and block reset (30_encoding.md R72 to R76, 10_state.md R41, 70_reset_and_hazards.md R220): the
reset table (O1), block reset (O2), what a step runs (O3, O4, O5), reserved opcodes (O6), and a busy block (O7). -/

namespace Sys2Proof.Machine

/-! ### Reset -/

/-- Settles O1: every entry of the table is a field of the state after reset. -/
theorem resetLeavesTheTable : Obligations.ResetLeavesTheTable := by
  refine ⟨rfl, rfl, rfl, rfl, rfl, rfl, rfl, rfl, rfl, rfl, rfl, rfl, rfl, fun id => ?_, rfl, Memory.read_nil⟩
  cases id <;> rfl

theorem step_of_rst {s : State} {rest : List HostMove} (h : s.host = .rst :: rest) :
    step s = .next s.popHost.blockReset := by
  simp only [step, select, h]

/-- Settles O2: reset goes before everything else a step could do. -/
theorem blockResetAtAnyTime : Obligations.BlockResetAtAnyTime := by
  intro s rest h
  rw [step_of_rst h, State.blockReset, State.popHost_host, h]
  rfl

/-! ### A step of an idle block -/

theorem select_present_of_idle {s : State} {w : CmdWord} {rest : List HostMove} (hb : s.busy = false)
    (h : s.host = .present w :: rest) : select s = take w s.clearDone.popHost := by
  simp [select, h, hb]

/-- The state in which a presented word has been accepted, field by field (R72). -/
theorem accept_eq {s : State} {m : HostMove} {rest : List HostMove} (h : s.host = m :: rest) (w : CmdWord) :
    s.clearDone.popHost.accept w = { s with
      op := some (w.extractLsb' 16 8), argA := some (w.extractLsb' 8 8), argB := some (w.extractLsb' 0 8),
      busy := true, seq := .running 0, done := false, host := rest } := by
  rw [State.accept, State.popHost, State.clearDone_host, h]
  rfl

theorem step_of_present {s : State} {w : CmdWord} {rest : List HostMove} {i : Instr} (hb : s.busy = false)
    (h : s.host = .present w :: rest) (hd : decode w = .ok i) : step s = exec i (s.clearDone.popHost.accept w) := by
  simp only [step, select_present_of_idle hb h, take, hd]

/-- Settles O3: the word is accepted and its command runs. -/
theorem stepRunsThePresentedCommand : Obligations.StepRunsThePresentedCommand := by
  intro s w rest i hb h hd
  rw [step_of_present hb h hd, accept_eq h]

/-- Settles O5: with nothing presented, an idle block's step is a quiet one. -/
theorem idleStepOnlyEndsDone : Obligations.IdleStepOnlyEndsDone := by
  intro s hb
  have hquiet {u : State} (hu : u.busy = s.busy) : quiet u = .settle u := by simp [quiet, hu, hb]
  refine ⟨fun h => ?_, fun rest h => ?_⟩
  · have hsel : select s = .settle s.clearDone := by simp only [select, h, hquiet (u := s.clearDone) rfl]
    rw [step, hsel]
    rfl
  · have hsel : select s = .settle s.clearDone.popHost := by
      simp only [select, h, hquiet (u := s.clearDone.popHost) rfl]
    rw [step, hsel, State.popHost, State.clearDone_host, h]
    rfl

/-! ### Reserved opcodes (R76) -/

/-- A reserved word, whether the decoder rejects it or PROBE's meaning does, completes as ILLEGAL in its step. -/
theorem step_of_reserved {s : State} {w : CmdWord} {rest : List HostMove} (hb : s.busy = false)
    (h : s.host = .present w :: rest) (hr : (opField w).toNat = 0 ∨ 7 ≤ (opField w).toNat ∨
      ((opField w).toNat = 6 ∧ s.params.hasProbe = false)) :
    step s = .next (s.clearDone.popHost.accept w).completeIllegal := by
  rw [← or_assoc] at hr
  obtain hr | ⟨h6, hp⟩ := hr
  · have hd : decode w = .error (.reservedOpcode (opField w)) := (decodeFields_error_iff _ _ _).2 hr
    simp only [step, select_present_of_idle hb h, take, hd]
  · have hop : opField w = 0x06 := BitVec.eq_of_toNat_eq h6
    have hd : decode w = .ok (.probe (aField w) (bField w)) := by rw [decode, hop]; rfl
    rw [step_of_present hb h hd]
    exact exec_reserved _ _ hp

/-- Settles O6. -/
theorem reservedOpcodeCompletesIllegal : Obligations.ReservedOpcodeCompletesIllegal := by
  intro s w rest hb h hr
  rw [step_of_reserved hb h hr, accept_eq h]
  rfl

/-! ### A step of a busy block (R24, R73) -/

theorem step_of_carryOn {s u : State} {i : Instr} (hsel : select s = carryOn u) (hc : u.command = some i) :
    step s = exec i u := by
  rw [step, hsel, carryOn_of_command hc]

theorem select_present_of_busy {s : State} {w : CmdWord} {rest : List HostMove} (hb : s.busy = true)
    (h : s.host = .present w :: rest) : select s = carryOn s.clearDone := by
  simp only [select, h, hb, if_true]

/-- Settles O4: the command in flight is the one the latches hold, whatever the host does but assert reset. -/
theorem stepCarriesOnTheCommandInFlight : Obligations.StepCarriesOnTheCommandInFlight := by
  intro s i hb hc
  refine ⟨fun h => ?_, fun rest h => ?_, fun w rest h => ?_⟩
  · refine step_of_carryOn (u := s.clearDone) ?_ hc
    simp only [select, h, quiet_of_busy (s := s.clearDone) hb]
  · have hpop : s.clearDone.popHost = { s with done := false, host := rest } := by
      rw [State.popHost, State.clearDone_host, h]
      rfl
    rw [← hpop]
    refine step_of_carryOn (u := s.clearDone.popHost) ?_ hc
    simp only [select, h, quiet_of_busy (s := s.clearDone.popHost) hb]
  · exact step_of_carryOn (u := s.clearDone) (select_present_of_busy hb h) hc

/-- Settles O7: the step carries on the command in flight, and no command changes the latches or the host's moves. -/
theorem busyBlockAcceptsNothing : Obligations.BusyBlockAcceptsNothing := by
  intro s t w rest hb h hstep
  rw [step, select_present_of_busy hb h] at hstep
  obtain ⟨i, -, he⟩ := carryOn_next (.inl rfl) hstep
  have hsame := exec_sameCommand he
  exact ⟨hsame.op, hsame.argA, hsame.argB, hsame.host⟩

end Sys2Proof.Machine
end

section
/-! PROOFS. The Transport and the number readings (40_transport.md, 42_register_encoder.md, 00_scope.md R10): latches and line
levels (O11), which events can fault (O12), the readings and the clamp (O23), and the orbit words (O22). -/

namespace Sys2Proof.Machine

/-! ### Line latches and true levels (R101, R107, R109) -/

theorem Lines.get_afterEvent_setLine (l : Lines) (id : LineId) (level : Level) (r : Reply) :
    (l.afterEvent (.setLine id level) r).get id = (match r with | .ok => some level | .fault => none) := by
  cases r <;> cases id <;> rfl

/-- A line that no transfer moves stays at what its latch says (R107). -/
theorem levelAfter_eq_latch (p : Params) {id : LineId} (hd : id ≠ .data) (hc : id ≠ .clk) (l : Lines) (e : Event)
    (r : Reply) : levelAfter p id (l.get id) ⟨e, r⟩ = (l.afterEvent e r).get id := by
  cases e with
  | setLine j level =>
    by_cases hj : j = id
    · subst hj
      rw [l.get_afterEvent_setLine]
      cases r <;> simp [levelAfter]
    · rw [l.get_afterEvent r (by simpa using hj)]
      simp only [levelAfter, hj, if_false]
  | wait d => rfl
  | xfer b => simp only [levelAfter, hd, hc, or_self, and_false, if_false]; rfl

section
variable {p : Params} {id : LineId} {b : Byte} (hid : id = .data ∨ id = .clk) (before : Option Level)
include hid

/-- After a transfer of the bit-banged Transport, DATA and CLK are not known where `SHIFT` is not given or a fault came. -/
theorem levelAfter_xfer_unknown {r : Reply} (ht : p.transport = .bitbang) (h : shiftOf p b = none ∨ r = .fault) :
    levelAfter p id before ⟨.xfer b, r⟩ = none := by
  simp only [levelAfter, ht, hid, and_self, if_true]
  rcases h with h | rfl
  · rw [h]; cases r <;> rfl
  · rfl

/-- Otherwise they are as `SHIFT` last drove them. -/
theorem levelAfter_xfer_driven {xs ys : List ShiftEvent} {x : ShiftEvent} (ht : p.transport = .bitbang)
    (hs : shiftOf p b = some (xs ++ x :: ys)) (hx : shiftLineId x.line = id)
    (hy : ∀ y ∈ ys, shiftLineId y.line ≠ id) : levelAfter p id before ⟨.xfer b, .ok⟩ = some x.level := by
  simp only [levelAfter, ht, hid, and_self, if_true, hs, levelAfterShift_append, levelAfterShift, hx]
  exact levelAfterShift_other _ hy

end

/-- A transfer of the hardware-assisted Transport moves no line. -/
theorem levelAfter_xfer_hwspi {p : Params} (ht : p.transport = .hwspi) (id : LineId) (before : Option Level) (b : Byte)
    (r : Reply) : levelAfter p id before ⟨.xfer b, r⟩ = before := by
  simp [levelAfter, ht]

/-- Settles O11: the latches by the one event that writes them, the true levels by one more entry of the trace. -/
theorem setLineWritesItsLatch : Obligations.SetLineWritesItsLatch := by
  intro s id level r
  refine ⟨s.lines.get_afterEvent_setLine id level r, fun other h => s.lines.get_afterEvent r ?_, fun d => rfl,
    fun b => rfl, fun e => rfl, fun e other hd hc hwire => ?_, fun b other hid => ⟨fun ht h => ?_,
      fun xs ys x ht hs hx hy => ?_, fun ht => ?_⟩⟩
  · rintro level' h'
    cases h'
    exact h rfl
  all_goals rw [s.wireLevel_acknowledge]
  · rw [hwire, levelAfter_eq_latch _ hd hc, State.acknowledge_lines]
  · exact levelAfter_xfer_unknown hid _ ht h
  · exact levelAfter_xfer_driven hid _ ht hs hx hy
  · exact levelAfter_xfer_hwspi ht _ _ _ _

/-! ### Which events can fault (R108, R110) -/

/-- An acknowledgement is a fault when its flag is set, the parameters allow faults, and the event can fault. -/
theorem State.reply_of_ack {s : State} {fault : Bool} {rx : Option Byte} (h : s.answer = .ack fault rx) (e : Event) :
    s.reply e = some (if fault && s.params.transportFaults && e.canFault then .fault else .ok) := by
  rw [State.reply, h]

/-- Settles O12. -/
theorem whichEventsCanFault : Obligations.WhichEventsCanFault := by
  intro s fault rx h
  refine ⟨fun d => ?_, fun hp e => ?_, fun hp => ⟨fun id level => ?_, fun b => ?_⟩⟩ <;> rw [State.reply_of_ack h]
  · simp [Event.canFault]
  · simp [hp]
  · simp [hp, Event.canFault]
  · simp [hp, Event.canFault]

/-! ### Number readings (R10) -/

theorem s8_mem (b : Byte) : -128 ≤ s8 b ∧ s8 b ≤ 127 := by
  have := b.isLt
  unfold s8
  split <;> omega

theorem toNat_tc8 (i : Int) : ((tc8 i).toNat : Int) = i % 256 := by
  rw [tc8, BitVec.toNat_ofInt]
  omega

theorem tc8_s8 (b : Byte) : tc8 (s8 b) = b := by
  have hread : s8 b % 256 = b.toNat := by
    have := b.isLt
    unfold s8
    split <;> omega
  have hmod := toNat_tc8 (s8 b)
  apply BitVec.eq_of_toNat_eq
  omega

/-- Settles O23. -/
theorem numberReadings : Obligations.NumberReadings :=
  ⟨fun b => ⟨(s8_mem b).1, (s8_mem b).2, tc8_s8 b⟩,
    fun i hlo hhi => ⟨s8_ofInt hlo (by omega), toNat_tc8 i⟩, fun x _ _ h => clamp_eq x h⟩

/-! ### The orbit words (R145, R146) -/

theorem zero_or_tc8 (x : Int) : 0x00 ||| tc8 x = tc8 x := BitVec.zero_or

/-- The clamped offsets in a value byte: the low five bits hold them in two's complement, and `0x80` does not reach these. -/
theorem low5_tc8 {x : Int} (h : -10 ≤ x ∧ x ≤ 10) : sext5 (tc8 x) = x ∧ sext5 (0x80 ||| tc8 x) = x := by
  obtain ⟨hlo, hhi⟩ := h
  interval_cases x <;> decide

/-- The low five bits of a register word are those of its value byte. -/
theorem low5_registerWord (a v : Byte) : ((registerWord a v).extractLsb' 0 5).toInt = sext5 v := by
  have h : (registerWord a v).extractLsb' 0 5 = (valByte (registerWord a v)).extractLsb' 0 5 := by
    apply BitVec.eq_of_getLsbD_eq
    intro i hi
    simp only [valByte, BitVec.getLsbD_extractLsb', Nat.zero_add, hi, decide_true, Bool.true_and]
    simp [show i < 8 by omega]
  rw [h, valByte_registerWord, sext5]

theorem getLsbD_registerWord_low (a v : Byte) {n : Nat} (h : n < 8) : (registerWord a v).getLsbD n = v.getLsbD n := by
  rw [← valByte_getLsbD _ h, valByte_registerWord]

/-- Settles O22: each word by its two bytes, with the clamp's value in the low five bits. -/
theorem orbitWords : Obligations.OrbitWords := by
  intro h v
  refine ⟨orbHWord h, orbVWord v, rfl, addrByte_registerWord _ _, addrByte_registerWord _ _, ?_, ?_, ?_, ?_, ?_⟩
  · refine Eq.trans (congrArg (fun b : Byte => (b.toNat : Int)) (valByte_registerWord _ _)) ?_
    rw [zero_or_tc8, toNat_tc8, orbValue_eq]
  · rw [← orbValue_eq]
    exact valByte_registerWord _ _
  · rw [← orbValue_eq, orbHWord, low5_registerWord, zero_or_tc8, (low5_tc8 (orbValue_mem h)).1]
  · rw [← orbValue_eq, orbVWord, low5_registerWord, (low5_tc8 (orbValue_mem v)).2]
  · rw [orbVWord, getLsbD_registerWord_low _ _ (by decide), BitVec.getLsbD_or]
    rfl

end Sys2Proof.Machine
end

section
/-! PROOFS. Flags, parameters and positions (10_state.md R24 to R27, R34, R40, 30_encoding.md R74, 60_exceptions.md R201):
the parameters (O51), `fault_seen` (O44), when flags are written (O45), and what the events depend on (O14). -/

namespace Sys2Proof.Machine

/-! ### The parameters and `fault_seen` along a step -/

/-- A step that works from `u` has, before it runs anything, changed neither parameters nor `fault_seen`. -/
theorem QuietFrom.params {s u : State} (hu : QuietFrom s u) : u.params = s.params := by
  rcases hu with rfl | rfl <;> rfl

theorem QuietFrom.faultSeen {s u : State} (hu : QuietFrom s u) : u.faultSeen = s.faultSeen := by
  rcases hu with rfl | rfl <;> rfl

/-- Settles O51: no command changes them, and neither does what a step does besides. -/
theorem parametersNeverChange : Obligations.ParametersNeverChange := by
  intro s t hstep
  obtain ⟨rest, -, rfl⟩ | ⟨u, hu, -, rfl⟩ | ⟨u, i, hu, -, -, he⟩ | ⟨w, rest, i, -, -, -, he⟩ |
    ⟨w, rest, op, -, -, -, rfl⟩ := step_cases hstep
  · rfl
  · exact hu.params
  · exact (exec_sameCommand he).params.trans hu.params
  · exact (exec_sameCommand he).params
  · rfl

/-- No operation of a run clears `fault_seen`. -/
theorem runClosed_faultSeen : RunClosed (fun _ => True) (fun s => s.faultSeen = true) where
  abortLine := trivial
  abortWait _ := trivial
  offer _ _ _ h := h
  acknowledge _ _ _ _ h := h
  moveTo _ _ h := h
  enterAbort _ h := h
  complete _ h := h
  completeFault _ _ := rfl

theorem exec_faultSeen {i : Instr} {s t : State} (h : exec i s = .next t) (hs : s.faultSeen = true) :
    t.faultSeen = true :=
  exec_keeps runClosed_faultSeen (fun _ hu => hu) (fun _ hf u hu => (hf.faultSeen u).trans hu) (fun _ hu => hu) h hs

/-- Settles O44: of all that a step can do, block reset alone clears it. -/
theorem faultSeenIsSticky : Obligations.FaultSeenIsSticky := by
  intro s t hstep hs
  obtain ⟨rest, hh, rfl⟩ | ⟨u, hu, -, rfl⟩ | ⟨u, i, hu, -, -, he⟩ | ⟨w, rest, i, -, -, -, he⟩ |
    ⟨w, rest, op, -, -, -, rfl⟩ := step_cases hstep
  · exact .inr ⟨rest, hh⟩
  · exact .inl (hu.faultSeen.trans hs)
  · exact .inl (exec_faultSeen he (hu.faultSeen.trans hs))
  · exact .inl (exec_faultSeen he hs)
  · exact .inl hs

/-! ### When flags are written (R26, R74) -/

/-- A command is in flight, and the flags are as they were. -/
structure Unfinished (s u : State) : Prop where
  busy : u.busy = true
  seq : u.seq ≠ .idle
  status : u.status = s.status
  done : u.done = s.done
  faultSeen : u.faultSeen = s.faultSeen

/-- What the flags are where a run ends. -/
def FlagsAtEnd (s t : State) : Prop :=
  (t.busy = true → t.status = s.status ∧ t.done = s.done ∧ t.faultSeen = s.faultSeen ∧ t.seq ≠ .idle) ∧
  (t.busy = false → t.seq = .idle ∧ t.done = true ∧
    (t.status = .fault → t.faultSeen = true) ∧ (t.status ≠ .fault → t.faultSeen = s.faultSeen))

theorem Unfinished.flagsAtEnd {s t : State} (h : Unfinished s t) : FlagsAtEnd s t :=
  ⟨fun _ => ⟨h.status, h.done, h.faultSeen, h.seq⟩, fun hb => absurd h.busy (by simp [hb])⟩

theorem Tame.unfinished {f : State → State} (hf : Tame f) {s u : State} (h : Unfinished s u) : Unfinished s (f u) where
  busy := (hf.busy u).trans h.busy
  seq := hf.seq u ▸ h.seq
  status := (hf.status u).trans h.status
  done := (hf.done u).trans h.done
  faultSeen := (hf.faultSeen u).trans h.faultSeen

/-- The proof outline of the flags for the run of a command: unfinished before every event. -/
theorem flagsProof (p : Params) (i : Instr) (s : State) : RunProof (commandItems p i) (abortEvents p.transport)
    (fun _ u => u.params = p ∧ Unfinished s u) (fun _ u => Unfinished s u) (FlagsAtEnd s) where
  offer _ h := Unfinished.flagsAtEnd { h.2 with }
  ack hit h :=
    have hack := (lawful_commandItems p i _ (List.mem_of_getElem? hit)).1
    ⟨(hack.params _).trans h.1, hack.unfinished { h.2 with seq := nofun }⟩
  fault hit _ h :=
    have hfault := (lawful_commandItems p i _ (List.mem_of_getElem? hit)).2
    ⟨h.1 ▸ rfl, { hfault.unfinished (u := State.acknowledge _ _ _) { h.2 with } with seq := nofun }⟩
  complete _ h := ⟨nofun, fun _ => ⟨rfl, rfl, nofun, fun _ => h.2.faultSeen⟩⟩
  offerAbort _ h := Unfinished.flagsAtEnd { h with }
  ackAbort _ _ h := { h with seq := nofun }
  completeFault _ _ := ⟨nofun, fun _ => ⟨rfl, rfl, fun _ => rfl, fun hs => absurd rfl hs⟩⟩

/-- Settles O45: a command is unfinished until it completes, and completion writes the flags. -/
theorem flagsAreWrittenAtCompletion : Obligations.FlagsAreWrittenAtCompletion := by
  intro i s t h
  obtain ⟨-, rfl⟩ | ⟨-, rfl⟩ := exec_cases h
  · exact (flagsProof s.params i s).runCommand rfl (fun _ => ⟨rfl, rfl, nofun, rfl, rfl, rfl⟩)
      (fun k hb hs => ⟨rfl, hb, hs ▸ nofun, rfl, rfl, rfl⟩) fun k hb hs => ⟨hb, hs ▸ nofun, rfl, rfl, rfl⟩
  · exact ⟨nofun, fun _ => ⟨rfl, rfl, nofun, fun _ => rfl⟩⟩

/-! ### What the events depend on (R40, R161) -/

/-- All of two states that their runs' events depend on is the same, and both have a command in flight. -/
structure SamePlace (s u : State) : Prop where
  params : u.params = s.params
  answers : u.answers = s.answers
  answerRest : u.answerRest = s.answerRest
  busy : s.busy = true
  busy' : u.busy = true
  seq : u.seq = s.seq

/-- Two runs, from `s` to `t` and from `u` to `v`, emitted the same and ended in the same place. -/
def SameRun (s u t v : State) : Prop :=
  ∃ d, t.trace = s.trace ++ d ∧ v.trace = u.trace ++ d ∧ v.busy = t.busy ∧ v.seq = t.seq ∧ v.answers = t.answers ∧
    (t.busy = true → v.port = t.port) ∧ (t.busy = false → v.status = t.status)

/-- Runs that go on after one more acknowledged event. -/
theorem SameRun.cons {s u s' u' t v : State} (h : SameRun s' u' t v) (x : TraceEntry) (hs : s'.trace = s.trace ++ [x])
    (hu : u'.trace = u.trace ++ [x]) : SameRun s u t v := by
  obtain ⟨d, ht, hv, hrest⟩ := h
  exact ⟨x :: d, by rw [ht, hs, List.append_assoc]; rfl, by rw [hv, hu, List.append_assoc]; rfl, hrest⟩

theorem SamePlace.reply {s u : State} (h : SamePlace s u) (e : Event) : u.reply e = s.reply e :=
  State.reply_congr h.params h.answers h.answerRest e

theorem SamePlace.offer {s u : State} (h : SamePlace s u) (e : Event) : SameRun s u (s.offer e) (u.offer e) :=
  ⟨[], (List.append_nil _).symm, (List.append_nil _).symm, h.busy'.trans h.busy.symm, h.seq,
    congrArg List.tail h.answers, fun _ => rfl, fun hb => absurd h.busy (by simpa using hb)⟩

/-- Both runs complete with the same status. -/
theorem SamePlace.complete {s u : State} (h : SamePlace s u) {t v : State} (r : Status) (ht : t.trace = s.trace)
    (hv : v.trace = u.trace) (ha : t.answers = s.answers) (ha' : v.answers = u.answers) :
    SameRun s u (t.complete r) (v.complete r) :=
  ⟨[], by simp [ht], by simp [hv], rfl, rfl, by simp [ha, ha', h.answers], nofun, fun _ => rfl⟩

theorem SamePlace.acknowledge {s u : State} (h : SamePlace s u) (e : Event) (r : Reply) :
    SamePlace (s.acknowledge e r) (u.acknowledge e r) :=
  ⟨h.params, congrArg List.tail h.answers, h.answerRest, h.busy, h.busy', h.seq⟩

theorem SamePlace.moveTo {s u : State} (h : SamePlace s u) (q : Seq) : SamePlace (s.moveTo q) (u.moveTo q) :=
  ⟨h.params, h.answers, h.answerRest, h.busy, h.busy', rfl⟩

theorem SamePlace.enterAbort {s u : State} (h : SamePlace s u) : SamePlace s.enterAbort u.enterAbort :=
  ⟨h.params, h.answers, h.answerRest, h.busy, h.busy', rfl⟩

theorem SamePlace.tame {s u : State} (h : SamePlace s u) {f : State → State} (hf : Tame f) : SamePlace (f s) (f u) where
  params := by rw [hf.params, hf.params, h.params]
  answers := by rw [hf.answers, hf.answers, h.answers]
  answerRest := by rw [hf.answerRest, hf.answerRest, h.answerRest]
  busy := (hf.busy s).trans h.busy
  busy' := (hf.busy u).trans h.busy'
  seq := by rw [hf.seq, hf.seq, h.seq]

theorem SamePlace.runAbort (es : List Event) (k : Nat) {s u : State} (h : SamePlace s u) :
    SameRun s u (runAbort k es s) (runAbort k es u) := by
  induction es generalizing k s u with
  | nil => exact h.complete .fault rfl rfl rfl rfl
  | cons e es ih =>
    simp only [Machine.runAbort, h.reply e]
    cases s.reply e with
    | none => exact h.offer e
    | some r => exact (ih _ ((h.acknowledge e r).moveTo _)).cons ⟨e, r⟩ rfl rfl

theorem SamePlace.runItems (items : List Item) (hl : ∀ it ∈ items, it.Lawful) (k : Nat) {s u : State}
    (h : SamePlace s u) : SameRun s u (runItems k items s) (runItems k items u) := by
  induction items generalizing k s u with
  | nil => exact h.complete .ok rfl rfl rfl rfl
  | cons it rest ih =>
    obtain ⟨hack, hfault⟩ := hl it List.mem_cons_self
    simp only [Machine.runItems, h.reply it.event, h.params]
    cases s.reply it.event with
    | none => exact h.offer _
    | some r =>
      cases r with
      | ok =>
        have hnext := ((h.acknowledge it.event .ok).moveTo (.running (k + 1))).tame hack
        exact (ih (fun j hj => hl j (List.mem_cons_of_mem _ hj)) _ hnext).cons ⟨it.event, .ok⟩ (hack.trace _) (hack.trace _)
      | fault =>
        have hnext := ((h.acknowledge it.event .fault).tame hfault).enterAbort
        exact (hnext.runAbort _ 0).cons ⟨it.event, .fault⟩ (hfault.trace _) (hfault.trace _)

/-- The same for a whole command, begun or carried on. -/
theorem sameRun_runCommand (items : List Item) (hl : ∀ it ∈ items, it.Lawful) {s u : State}
    (hp : u.params = s.params) (ha : u.answers = s.answers) (hr : u.answerRest = s.answerRest) (hb : u.busy = s.busy)
    (hs : u.seq = s.seq) : SameRun s u (runCommand items s) (runCommand items u) := by
  have hbegin : SameRun s u (Machine.runItems 0 items s.start) (Machine.runItems 0 items u.start) :=
    SamePlace.runItems items hl 0 (s := s.start) (u := u.start) ⟨hp, ha, hr, rfl, rfl, rfl⟩
  simp only [runCommand, hb, hs]
  cases hsb : s.busy with
  | false => exact hbegin
  | true =>
    have hplace : SamePlace s u := ⟨hp, ha, hr, hsb, hb.trans hsb, hs⟩
    cases s.seq with
    | idle => exact hbegin
    | running k => exact hplace.runItems _ (fun it hit => hl it (List.mem_of_mem_drop hit)) k
    | aborting k => exact hp ▸ hplace.runAbort _ k

/-- Settles O14: event by event the two runs are acknowledged the same. -/
theorem eventsDependOnCommandAndParametersAlone : Obligations.EventsDependOnCommandAndParametersAlone := by
  intro i s u hp ha hr hb hs
  cases hw : wellFormed s.params i with
  | true =>
    obtain ⟨d, h⟩ := sameRun_runCommand _ (lawful_commandItems s.params i) hp ha hr hb hs
    have hu : exec i u = .next (runCommand (commandItems s.params i) u) := hp ▸ exec_eq_runCommand i u (hp.symm ▸ hw)
    exact ⟨_, _, d, exec_eq_runCommand i s hw, hu, h⟩
  | false =>
    exact ⟨_, _, [], exec_reserved i s hw, exec_reserved i u (hp.symm ▸ hw), by simp, by simp, rfl, rfl, ha, nofun,
      fun _ => rfl⟩

end Sys2Proof.Machine
end

section
/-! PROOFS. What each command does when its events are acknowledged (43_panel_controller.md): the results (O25 to O30, O60),
completion on a reliable Transport (O31), the transition table (O34), waiting and going on (O15, O17). -/

namespace Sys2Proof.Machine

/-! ### The state writes of a list, apart from the run's own -/

/-- The state with the fields that the run itself writes replaced. -/
def State.withRun (tr : List TraceEntry) (an : List Answer) (po : Option Event) (li : Lines) (q : Seq) (b : Bool)
    (s : State) : State :=
  { s with trace := tr, answers := an, port := po, lines := li, seq := q, busy := b }

/-- The state writes of the events of a list, all acknowledged, one after another. -/
def writesOf (items : List Item) (s : State) : State := items.foldl (fun u it => it.onAck u) s

/-- The line latches after these events were all acknowledged without fault. -/
def linesAfter (es : List Event) (l : Lines) : Lines := es.foldl (fun l e => l.afterEvent e .ok) l

/-- A state write that neither reads nor writes what the run itself writes. -/
def Apart (f : State → State) : Prop :=
  ∀ tr an po li q b s, f (State.withRun tr an po li q b s) = (f s).withRun tr an po li q b

theorem writeClosed_apart : WriteClosed Apart where
  id _ _ _ _ _ _ _ := rfl
  comp hf hg tr an po li q b s := by simp only [hg tr an po li q b, hf tr an po li q b]
  panelSent _ _ _ _ _ _ _ _ := rfl
  panelCut _ _ _ _ _ _ _ _ := rfl
  panelLost _ _ _ _ _ _ _ := rfl
  panelReset _ _ _ _ _ _ _ := rfl
  panelInitialised _ _ _ _ _ _ _ := rfl
  panelOn _ _ _ _ _ _ _ := rfl
  panelOff _ _ _ _ _ _ _ := rfl
  lumSent _ _ _ _ _ _ _ _ := rfl
  lumCut _ _ _ _ _ _ _ := rfl
  orbHSent _ _ _ _ _ _ _ _ := rfl
  orbHCut _ _ _ _ _ _ _ := rfl
  orbVSent _ _ _ _ _ _ _ _ := rfl
  orbVCut _ _ _ _ _ _ _ := rfl

@[simp] theorem writesOf_nil (s : State) : writesOf [] s = s := rfl

@[simp] theorem writesOf_cons (it : Item) (items : List Item) (s : State) :
    writesOf (it :: items) s = writesOf items (it.onAck s) := rfl

@[simp] theorem writesOf_append (xs ys : List Item) (s : State) : writesOf (xs ++ ys) s = writesOf ys (writesOf xs s) :=
  List.foldl_append

theorem writesOf_apart (items : List Item) (h : ∀ it ∈ items, Apart it.onAck) : Apart (writesOf items) := by
  induction items with
  | nil => exact fun _ _ _ _ _ _ _ => rfl
  | cons it rest ih =>
    intro tr an po li q b s
    rw [writesOf_cons, h it List.mem_cons_self, ih fun j hj => h j (List.mem_cons_of_mem _ hj)]
    rfl

theorem State.start_eq_withRun (s : State) :
    s.start = s.withRun s.trace s.answers s.port s.lines (.running 0) true := rfl

theorem State.acknowledge_moveTo_eq (s : State) (e : Event) (r : Reply) (q : Seq) : (s.acknowledge e r).moveTo q =
    s.withRun (s.trace ++ [⟨e, r⟩]) s.answers.tail none (s.lines.afterEvent e r) q s.busy := rfl

/-- All events of a list acknowledged: the state writes do their part, the run itself the rest. -/
theorem performAll_eq (items : List Item) (hne : items ≠ []) (h : ∀ it ∈ items, Apart it.onAck) (k : Nat) (s : State) :
    performAll k items s = (writesOf items s).withRun (s.trace ++ okEntries (items.map Item.event))
      (s.answers.drop items.length) none (linesAfter (items.map Item.event) s.lines) (.running (k + items.length))
      s.busy := by
  induction items generalizing k s with
  | nil => exact absurd rfl hne
  | cons it rest ih =>
    have hit := h it List.mem_cons_self
    have hrest : ∀ j ∈ rest, Apart j.onAck := fun j hj => h j (List.mem_cons_of_mem _ hj)
    rw [performAll, State.acknowledge_moveTo_eq, hit]
    cases rest with
    | nil => simp [performAll, okEntries, linesAfter]
    | cons it' rest =>
      rw [ih (by simp) hrest, writesOf_apart _ hrest]
      simp [State.withRun, okEntries, linesAfter, Nat.add_assoc, Nat.add_comm 1]

theorem commandItems_ne_nil (p : Params) (i : Instr) : commandItems p i ≠ [] := by
  have hlen : (commandEvents p i).length ≠ 0 := by
    cases i with
    | init a b => rw [commandEvents_init_split]; simp
    | pon a b => rw [commandEvents_pon]; simp
    | poff a b => rw [commandEvents_poff]; simp
    | lum n b => rw [commandEvents_lum]; simp
    | orb h v => rw [commandEvents_orb]; simp
    | probe a b => rw [commandEvents_probe]; simp [probeSequence]
  intro h
  simp [commandEvents, h] at hlen

/-- The state in which a command has completed as OK. -/
theorem exec_of_acksAll {i : Instr} {s : State} (hi : wellFormed s.params i = true) (hs : s.atStart)
    (h : s.acksAll (commandEvents s.params i)) :
    exec i s = .next (((writesOf (commandItems s.params i) s).withRun (s.trace ++ okEntries (commandEvents s.params i))
      (s.answers.drop (commandEvents s.params i).length) none (linesAfter (commandEvents s.params i) s.lines)
      .idle false).complete .ok) := by
  have hapart : ∀ it ∈ commandItems s.params i, Apart it.onAck :=
    fun it hit => (writeClosed_apart.commandItems s.params i it hit).1
  rw [exec_eq_runCommand i s hi, runCommand_atStart _ s hs, runItems_acksAll _ (lawful_commandItems s.params i) 0 s.start
    ((State.acksAll_congr (s := s) (t := s.start) _ rfl rfl rfl).2 h),
    performAll_eq _ (commandItems_ne_nil _ _) hapart, State.start_eq_withRun, writesOf_apart _ hapart, commandEvents,
      List.length_map]
  rfl

/-! ### The state writes of transactions and of commands -/

theorem writesOf_eq_self {items : List Item} (h : ∀ it ∈ items, it.onAck = id) (s : State) : writesOf items s = s := by
  induction items with
  | nil => rfl
  | cons it rest ih =>
    rw [writesOf_cons, h it List.mem_cons_self]
    exact ih fun j hj => h j (List.mem_cons_of_mem _ hj)

/-- The events of a transaction before the last carry no state write. -/
def txnHead (t : Transport) (bs : List Byte) (cut : State → State) : List Item :=
  [⟨.setLine .cs .low, id, cut⟩, ⟨.wait (tSettle t), id, cut⟩] ++ bs.map (fun b => ⟨.xfer b, id, cut⟩)
    ++ [⟨.wait (tSettle t), id, cut⟩, ⟨.setLine .cs .high, id, cut⟩]

theorem txn_eq_head (t : Transport) (bs : List Byte) (done cut : State → State) :
    txn t bs done cut = txnHead t bs cut ++ [⟨.wait (tIdle t), done, cut⟩] := by
  simp [txn, txnHead]

theorem onAck_of_mem_txnHead {t : Transport} {bs : List Byte} {cut : State → State} :
    ∀ it ∈ txnHead t bs cut, it.onAck = id := by
  intro it hit
  simp only [txnHead, List.mem_append, List.mem_cons, List.mem_map, List.not_mem_nil, or_false] at hit
  rcases hit with ((rfl | rfl) | ⟨b, -, rfl⟩) | (rfl | rfl) <;> rfl

@[simp] theorem writesOf_txn (t : Transport) (bs : List Byte) (done cut : State → State) (s : State) :
    writesOf (txn t bs done cut) s = done s := by
  rw [txn_eq_head, writesOf_append, writesOf_eq_self onAck_of_mem_txnHead]
  rfl

@[simp] theorem writesOf_writeRegisters (t : Transport) (rs : List RegWrite) (s : State) :
    writesOf (writeRegisters t rs) s = rs.foldl (fun u r => r.done u) s := by
  induction rs generalizing s with
  | nil => rfl
  | cons r rs ih => rw [writeRegisters_cons, writesOf_append, writeWord, writesOf_txn, ih, List.foldl_cons]

theorem writesOf_init (p : Params) (a b : Byte) (s : State) :
    writesOf (commandItems p (.init a b)) s = s.panelInitialised := by
  rw [commandItems, initItems, burstWrite, writesOf_append, writesOf_txn]
  unfold initLines
  cases p.transport <;> cases p.hasPwr <;> rfl

theorem writesOf_pon (p : Params) (a b : Byte) (s : State) :
    writesOf (commandItems p (.pon a b)) s = ((s.panelSent modeSelectWord).panelOn).panelSent confirmOnWord := by
  rw [commandItems, ponItems, writesOf_append, writesOf_writeRegisters]
  cases p.hasPwr <;> rfl

theorem writesOf_poff (p : Params) (a b : Byte) (s : State) : writesOf (commandItems p (.poff a b)) s =
    if p.hasPwr then (((s.panelSent modeSelectWord).panelSent confirmOffWord).panelOff).panelLost
      else ((s.panelSent modeSelectWord).panelSent confirmOffWord).panelOff := by
  rw [commandItems, poffItems, writesOf_append, writesOf_writeRegisters]
  cases p.hasPwr <;> rfl

theorem writesOf_lum (p : Params) (n b : Byte) (s : State) : writesOf (commandItems p (.lum n b)) s =
    ((s.panelSent lumEnableWord).panelSent (lumValueWord n)).lumSent (lumValue n) := by
  rw [commandItems, lumItems, writesOf_writeRegisters]
  rfl

theorem writesOf_orb (p : Params) (h v : Byte) (s : State) : writesOf (commandItems p (.orb h v)) s =
    ((((s.panelSent (orbHWord h)).orbHSent (orbValue h)).panelSent (orbVWord v)).orbVSent (orbValue v)) := by
  rw [commandItems, orbItems, writesOf_writeRegisters]
  rfl

theorem writesOf_probe (p : Params) (a b : Byte) (s : State) : writesOf (commandItems p (.probe a b)) s =
    (probeSequence p.probeWords).foldl (fun u w => u.panelCut w) s := by
  rw [commandItems, probeItems, writesOf_writeRegisters, List.foldl_map]
  rfl

/-! ### The line latches of commands -/

@[simp] theorem linesAfter_append (es fs : List Event) (l : Lines) :
    linesAfter (es ++ fs) l = linesAfter fs (linesAfter es l) := List.foldl_append

@[simp] theorem linesAfter_wordEvents (t : Transport) (a v : Byte) (l : Lines) :
    linesAfter (wordEvents t a v) l = { l with cs := some .high } := rfl

theorem linesAfter_map_xfer (bs : List Byte) (l : Lines) : linesAfter (bs.map Event.xfer) l = l := by
  induction bs with
  | nil => rfl
  | cons b bs ih => exact ih

theorem linesAfter_initEvents (p : Params) (l : Lines) : linesAfter (initEvents p) l =
    { data := (match p.transport with | .bitbang => some .low | .hwspi => l.data),
      clk := (match p.transport with | .bitbang => some .low | .hwspi => l.clk),
      rst := some .high, cs := some .high, pwr := if p.hasPwr then some .low else l.pwr } := by
  simp only [initEvents, List.flatten_cons, List.flatten_nil, List.append_nil, linesAfter_append, linesAfter_map_xfer]
  cases p.transport <;> cases p.hasPwr <;> rfl

theorem linesAfter_flatMap_wordEvents {α : Type} (t : Transport) (a v : α → Byte) (x : α) (xs : List α) (l : Lines) :
    linesAfter ((x :: xs).flatMap fun y => wordEvents t (a y) (v y)) l = { l with cs := some .high } := by
  induction xs generalizing x l with
  | nil => rfl
  | cons y ys ih =>
    rw [List.flatMap_cons, linesAfter_append, linesAfter_wordEvents, ih]

/-- A completed command leaves chip-select high (R122). -/
theorem linesAfter_commandEvents_cs (p : Params) (i : Instr) (l : Lines) :
    (linesAfter (commandEvents p i) l).cs = some .high := by
  cases i with
  | init a b => rw [commandEvents_init, linesAfter_initEvents]
  | pon a b => rw [commandEvents_pon, linesAfter_append, linesAfter_wordEvents]
  | poff a b =>
    rw [commandEvents_poff, linesAfter_append, linesAfter_append, linesAfter_wordEvents]
    cases p.hasPwr <;> rfl
  | lum n b => rw [commandEvents_lum, linesAfter_append, linesAfter_wordEvents]
  | orb h v => rw [commandEvents_orb, linesAfter_append, linesAfter_wordEvents]
  | probe a b => rw [commandEvents_probe, probeSequence, linesAfter_flatMap_wordEvents]

/-! ### The results -/

/-- Settles O25: INIT's state writes are those of its end, which overwrite those of the reset assertion. -/
theorem initResult : Obligations.InitResult := by
  intro a b s t es hs h
  have hev : commandEvents s.params (.init a b) = es := commandEvents_init s.params a b
  rw [exec_of_acksAll rfl hs (hev ▸ h), hev, writesOf_init, linesAfter_initEvents]
  rfl

/-- Settles O26: the confirm word is recorded after `pstate` has moved. -/
theorem ponResult : Obligations.PonResult := by
  intro a b s t es hs h
  have hev : commandEvents s.params (.pon a b) = es := commandEvents_pon s.params a b
  have hlines : linesAfter es s.lines =
      { s.lines with cs := some .high, pwr := if s.params.hasPwr then some .high else s.lines.pwr } := by
    simp only [es, linesAfter_append, linesAfter_wordEvents]
    cases s.params.hasPwr <;> rfl
  rw [exec_of_acksAll rfl hs (hev ▸ h), hev, writesOf_pon, hlines]
  cases hq : s.pstate <;>
    simp [State.withRun, State.complete, State.panelSent, State.panelOn, State.sentValue, PState.afterPon, hq]

/-- Settles O27: both words are recorded before `pstate` moves, and PWR driven low loses the image. -/
theorem poffResult : Obligations.PoffResult := by
  intro a b s t es hs h
  have hev : commandEvents s.params (.poff a b) = es := commandEvents_poff s.params a b
  have hlines : linesAfter es s.lines =
      { s.lines with cs := some .high, pwr := if s.params.hasPwr then some .low else s.lines.pwr } := by
    simp only [es, linesAfter_append, linesAfter_wordEvents]
    cases s.params.hasPwr <;> rfl
  rw [exec_of_acksAll rfl hs (hev ▸ h), hev, writesOf_poff, hlines]
  cases hq : s.pstate <;> cases s.params.hasPwr <;>
    simp [State.withRun, State.complete, State.panelSent, State.panelOff, State.panelLost, State.sentValue,
      PState.afterPoff, hq]

/-- The clamped operand as the statements write it. -/
theorem lumValue_eq_ite (n : Byte) :
    lumValue n = if n.toNat < 5 then 5 else if 100 < n.toNat then 100 else n.toNat := by
  rw [lumValue_eq]
  split
  · omega
  · split <;> omega

/-- Settles O28: each of the two words is recorded, and the shadow after the second. -/
theorem lumResult : Obligations.LumResult := by
  intro n b s t c es hs h
  have hc : lumValue n = c := lumValue_eq_ite n
  have hev : commandEvents s.params (.lum n b) = es := by rw [commandEvents_lum, hc]
  have hlines : linesAfter es s.lines = { s.lines with cs := some .high } := by
    rw [linesAfter_append, linesAfter_wordEvents, linesAfter_wordEvents]
  rw [exec_of_acksAll rfl hs (hev ▸ h), hev, writesOf_lum, hlines]
  simp [State.withRun, State.complete, State.panelSent, State.lumSent, State.sentValue, lumEnableWord, lumValueWord, hc,
    es]

/-- Settles O29: each word is recorded, and after each its own shadow. -/
theorem orbResult : Obligations.OrbResult := by
  intro x y s t hc vc es hs h
  have hh : orbValue x = hc := orbValue_eq x
  have hv : orbValue y = vc := orbValue_eq y
  have hev : commandEvents s.params (.orb x y) = es := by rw [commandEvents_orb, hh, hv]; rfl
  have hlines : linesAfter es s.lines = { s.lines with cs := some .high } := by
    rw [linesAfter_append, linesAfter_wordEvents, linesAfter_wordEvents]
  rw [exec_of_acksAll rfl hs (hev ▸ h), hev, writesOf_orb, hlines]
  simp [State.withRun, State.complete, State.panelSent, State.orbHSent, State.orbVSent, State.sentValue, orbHWord,
    orbVWord, hh, hv, es, tc8]

/-- Settles O30: PROBE's state writes leave no value at the four addresses. -/
theorem probeResult : Obligations.ProbeResult := by
  intro a b s hp t p word es hs h
  have hev : commandEvents s.params (.probe a b) = es := by
    rw [commandEvents_probe]
    simp [probeSequence, es, word, p, addrByte, valByte, t]
  have hlines : linesAfter es s.lines = { s.lines with cs := some .high } := by
    simp only [es, word, linesAfter_append, linesAfter_wordEvents]
  rw [exec_of_acksAll (i := .probe a b) hp hs (hev ▸ h), hev, writesOf_probe, hlines]
  simp [State.withRun, State.complete, probeSequence, State.panelCut, Memory.set, addrByte, es, word, p]

/-- Settles O60: LUM's result, read back at its two registers. -/
theorem lumReachesThePanelImage : Obligations.LumReachesThePanelImage := by
  intro n b s hr hb hk hq
  refine ⟨_, lumResult n b s (.inl hb) (hr.acksAll _), ?_, ?_, ?_⟩
  · simp [Memory.read_set, hk, hq]
  · simp [Memory.read_set, hk, hq]
  · simp only [hq, if_true, ← lumValue_eq_ite, lumValue_eq]

/-! ### Completion (V12 item 1, R176) -/

/-- Settles O31: a reliable Transport acknowledges every event; a reserved opcode has none. -/
theorem reliableTransportCompletesEveryCommand : Obligations.ReliableTransportCompletesEveryCommand := by
  intro i s hr hb
  cases hw : wellFormed s.params i with
  | true =>
    obtain ⟨-, -, -, -, -, hfault, -⟩ := performAll_spec (commandItems s.params i) (lawful_commandItems s.params i) 0 s.start
    refine ⟨_, exec_of_reliable hw hr (.inl hb), rfl, rfl, rfl, by simp, hfault, fun _ => ?_⟩
    have heq := (exec_of_reliable hw hr (.inl hb)).symm.trans (exec_of_acksAll hw (.inl hb) (hr.acksAll _))
    rw [Host.Outcome.next.inj heq]
    exact linesAfter_commandEvents_cs _ _ _
  | false => exact ⟨_, exec_reserved i s hw, rfl, rfl, rfl, by simp, rfl, nofun⟩

/-- The abort procedure ends a command as FAULT or waits. -/
theorem runAbort_status (es : List Event) (k : Nat) (s : State) (hb : s.busy = true)
    (hdone : (runAbort k es s).busy = false) : (runAbort k es s).status = .fault := by
  induction es generalizing k s with
  | nil => rfl
  | cons e es ih =>
    simp only [runAbort] at hdone ⊢
    cases hr : s.reply e with
    | none =>
      simp only [hr] at hdone
      simp [hb] at hdone
    | some r =>
      simp only [hr] at hdone ⊢
      exact ih _ _ (by simpa using hb) hdone

/-- A run that ends as OK had every event acknowledged without fault. -/
theorem acksAll_of_runItems_ok (items : List Item) (hl : ∀ it ∈ items, it.Lawful) (k : Nat) (s : State)
    (hb : s.busy = true) (hdone : (runItems k items s).busy = false) (hok : (runItems k items s).status = .ok) :
    s.acksAll (items.map Item.event) := by
  induction items generalizing k s with
  | nil => trivial
  | cons it rest ih =>
    obtain ⟨hack, hfault⟩ := hl it List.mem_cons_self
    simp only [runItems] at hdone hok
    cases hr : s.reply it.event with
    | none =>
      simp only [hr] at hdone
      simp [hb] at hdone
    | some r =>
      simp only [hr] at hdone hok
      cases r with
      | ok =>
        have hrest := ih (fun j hj => hl j (List.mem_cons_of_mem _ hj)) _ _ (by simpa [hack.busy] using hb) hdone hok
        refine ⟨hr, (State.acksAll_congr _ ?_ ?_ ?_).1 hrest⟩ <;> simp [hack.params, hack.answers, hack.answerRest]
      | fault =>
        rw [runAbort_status _ _ _ (by simpa [hfault.busy] using hb) hdone] at hok
        cases hok

/-- A command that completed as OK from its beginning has done what its state writes do. -/
theorem exec_ok {i : Instr} {s t : State} (hs : s.atStart) (h : exec i s = .next t) (hb : t.busy = false)
    (hok : t.status = .ok) : wellFormed s.params i = true ∧ s.acksAll (commandEvents s.params i) := by
  obtain ⟨hw, rfl⟩ | ⟨-, rfl⟩ := exec_cases h
  · rw [runCommand_atStart _ s hs] at hb hok
    have hacks := acksAll_of_runItems_ok _ (lawful_commandItems s.params i) 0 s.start rfl hb hok
    exact ⟨hw, (State.acksAll_congr (s := s) (t := s.start) _ rfl rfl rfl).1 hacks⟩
  · cases hok

/-- Settles O34: the command's state writes, of which `pstate` is read. -/
theorem transitionTable : Obligations.TransitionTable := by
  intro i s t hs h hb hok
  obtain ⟨hw, hacks⟩ := exec_ok hs h hb hok
  have ht := Host.Outcome.next.inj (h.symm.trans (exec_of_acksAll hw hs hacks))
  have hq : t.pstate = (writesOf (commandItems s.params i) s).pstate := ht ▸ rfl
  rw [hq]
  cases i with
  | init a b => rw [writesOf_init]; rfl
  | pon a b =>
    rw [writesOf_pon]
    have hon : (((s.panelSent modeSelectWord).panelOn).panelSent confirmOnWord).pstate = s.pstate.afterPon := rfl
    rw [hon]
    cases s.pstate <;> rfl
  | poff a b =>
    rw [writesOf_poff]
    have hoff : ((s.panelSent modeSelectWord).panelSent confirmOffWord).panelOff.pstate = s.pstate.afterPoff := rfl
    split <;> simp only [State.panelLost_pstate, hoff] <;> cases s.pstate <;> rfl
  | lum n b => rw [writesOf_lum]; rfl
  | orb h v => rw [writesOf_orb]; rfl
  | probe a b => rw [writesOf_probe]; rfl

/-! ### Waiting and going on (R24, R203) -/

/-- The event at a position of a command's list, with its state writes. -/
theorem exists_item_of_commandEvents {p : Params} {i : Instr} {k : Nat} {e : Event}
    (h : (commandEvents p i)[k]? = some e) : ∃ it, (commandItems p i)[k]? = some it ∧ it.event = e := by
  rw [commandEvents, List.getElem?_map] at h
  exact Option.map_eq_some_iff.1 h

/-- Settles O15: the run performs the first `k` events and offers the next. -/
theorem unacknowledgedEventWaits : Obligations.UnacknowledgedEventWaits := by
  intro i s k e hw hs hk hack hhold
  obtain ⟨it, hit, rfl⟩ := exists_item_of_commandEvents hk
  have hl : ∀ j ∈ (commandItems s.params i).take k, j.Lawful :=
    fun j hj => lawful_commandItems s.params i j (List.mem_of_mem_take hj)
  rw [take_commandEvents] at hack ⊢
  have hrun := runCommand_holdsAt _ (lawful_commandItems s.params i) s hs k it hit hack hhold
  obtain ⟨-, -, hanswers, htrace, hstatus, -, hbusy, -⟩ := performAll_spec _ hl 0 s.start
  have hseq := performAll_seq _ hl 0 s.start rfl
  rw [length_take_of_getElem? hit] at hanswers hseq
  refine ⟨_, (exec_eq_runCommand i s hw).trans (congrArg _ hrun), hbusy, by simpa using hseq, rfl, hstatus, htrace, ?_⟩
  rw [State.offer_answers, hanswers, List.tail_drop]
  rfl

/-- Settles O17: the run goes on with the events that are left. -/
theorem waitingCommandGoesOn : Obligations.WaitingCommandGoesOn := by
  intro i s k hw hb hs hack
  have hl : ∀ j ∈ (commandItems s.params i).drop k, j.Lawful :=
    fun j hj => lawful_commandItems s.params i j (List.mem_of_mem_drop hj)
  rw [drop_commandEvents] at hack ⊢
  have hrun : runCommand (commandItems s.params i) s =
      (performAll k ((commandItems s.params i).drop k) s).complete .ok := by
    simp only [runCommand, hb, hs]
    exact runItems_acksAll _ hl k s hack
  obtain ⟨-, -, -, htrace, -⟩ := performAll_spec _ hl k s
  exact ⟨_, (exec_eq_runCommand i s hw).trans (congrArg _ hrun), rfl, rfl, rfl, rfl, htrace⟩

end Sys2Proof.Machine
end

section
/-! PROOFS. The abort procedure (60_exceptions.md R196): what it does after any fault (O38), and what an aborted LUM, ORB,
INIT, PON, POFF and PROBE leave (O39 to O43). -/

namespace Sys2Proof.Machine

/-! ### A command whose event `k` faults -/

/-- The shadows, the power state record and the panel image are the same. -/
structure SameRecord (s t : State) : Prop where
  lum : t.lum = s.lum
  orbH : t.orbH = s.orbH
  orbV : t.orbV = s.orbV
  pstate : t.pstate = s.pstate
  preg : t.preg = s.preg

/-- The state the abort procedure leaves, from the state in which event `k` had been performed with its fault. -/
theorem exec_faultsAt {i : Instr} {s : State} {k : Nat} {e : Event} {r : Reply} (hw : wellFormed s.params i = true)
    (hs : s.atStart) (hf : s.FaultsAt (commandEvents s.params i) k e r) :
    ∃ it, (commandItems s.params i)[k]? = some it ∧ it.event = e ∧ exec i s = .next
      ((((it.onFault ((performAll 0 ((commandItems s.params i).take k) s.start).acknowledge e .fault)).enterAbort.acknowledge
        (.setLine .cs .high) r).moveTo (.aborting 1)).acknowledge (.wait (tIdle s.params.transport)) .ok
          |>.moveTo (.aborting 2)).completeFault := by
  obtain ⟨it, hit, rfl⟩ := exists_item_of_commandEvents hf.1
  refine ⟨it, hit, rfl, ?_⟩
  rw [exec_eq_runCommand i s hw, runCommand_faultsAt _ (lawful_commandItems s.params i) s hs k it hit r hf]

/-- Settles O38: of the state the abort procedure leaves, each named field is read off. -/
theorem abortProcedure : Obligations.AbortProcedure := by
  intro i s k e r hw hs hf
  obtain ⟨it, hit, rfl, hexec⟩ := exec_faultsAt hw hs hf
  have hfault := (lawful_commandItems s.params i it (List.mem_of_getElem? hit)).2
  have hl : ∀ j ∈ (commandItems s.params i).take k, j.Lawful :=
    fun j hj => lawful_commandItems s.params i j (List.mem_of_mem_take hj)
  obtain ⟨-, -, hanswers, htrace, -⟩ := performAll_spec _ hl 0 s.start
  rw [length_take_of_getElem? hit] at hanswers
  refine ⟨_, hexec, ?_, rfl, rfl, rfl, rfl, rfl, rfl, ?_, fun id level he hid => ?_, ?_⟩
  · simp [hfault.trace, htrace, take_commandEvents]
  · cases r <;> rfl
  · have hcs : ∀ level', Event.setLine .cs .high ≠ .setLine id level' := by
      rintro level' h
      cases h
      exact hid rfl
    simp only [State.completeFault_lines, State.moveTo_lines, State.acknowledge_lines, State.enterAbort_lines,
      hfault.lines]
    rw [Lines.get_afterEvent _ _ (by simp), Lines.get_afterEvent _ _ hcs, he, Lines.get_afterEvent_setLine]
  · simp [hfault.answers, hanswers, List.tail_drop]

/-- One more acknowledged event writes what the run itself writes. -/
theorem State.acknowledge_withRun (tr : List TraceEntry) (an : List Answer) (po : Option Event) (li : Lines) (q : Seq)
    (b : Bool) (s : State) (e : Event) (r : Reply) : (s.withRun tr an po li q b).acknowledge e r =
      s.withRun (tr ++ [⟨e, r⟩]) an.tail none (li.afterEvent e r) q b := rfl

theorem sameRecord_withRun (tr : List TraceEntry) (an : List Answer) (po : Option Event) (li : Lines) (q : Seq)
    (b : Bool) (s : State) : SameRecord s (s.withRun tr an po li q b) :=
  ⟨rfl, rfl, rfl, rfl, rfl⟩

/-- No operation of a run writes the record by itself. -/
theorem runClosed_sameRecord (s : State) : RunClosed (fun _ => True) (SameRecord s) where
  abortLine := trivial
  abortWait _ := trivial
  offer _ _ _ h := { h with }
  acknowledge _ _ _ _ h := { h with }
  moveTo _ _ h := { h with }
  enterAbort _ h := { h with }
  complete _ h := { h with }
  completeFault _ h := { h with }

/-- The abort procedure does not show in the record. -/
theorem sameRecord_abort {s u : State} (h : SameRecord s u) (e e' : Event) (r r' : Reply) (q q' : Seq) :
    SameRecord s ((((u.enterAbort.acknowledge e r).moveTo q).acknowledge e' r').moveTo q').completeFault := by
  have hrun := runClosed_sameRecord s
  exact hrun.completeFault _ (hrun.moveTo _ _ (hrun.acknowledge _ _ _ trivial
    (hrun.moveTo _ _ (hrun.acknowledge _ _ _ trivial (hrun.enterAbort _ h)))))

/-- Events that were all acknowledged leave what their state writes leave, but for what the run itself writes. -/
theorem performAll_eq_withRun (items : List Item) (h : ∀ it ∈ items, Apart it.onAck) (k : Nat) (s : State) :
    ∃ tr an po li q, performAll k items s = (writesOf items s).withRun tr an po li q s.busy := by
  by_cases hne : items = []
  · exact hne ▸ ⟨s.trace, s.answers, s.port, s.lines, s.seq, rfl⟩
  · exact ⟨_, _, _, _, _, performAll_eq items hne h k s⟩

/-- The record after an aborted command: the state writes of the events before the fault, and then those of the fault. -/
theorem faultsAt_record {i : Instr} {s t : State} {k : Nat} {e : Event} {r : Reply} (hw : wellFormed s.params i = true)
    (hs : s.atStart) (hf : s.FaultsAt (commandEvents s.params i) k e r) (h : exec i s = .next t) :
    ∃ it, (commandItems s.params i)[k]? = some it ∧
      SameRecord (it.onFault (writesOf ((commandItems s.params i).take k) s)) t := by
  obtain ⟨it, hit, -, hexec⟩ := exec_faultsAt hw hs hf
  refine ⟨it, hit, ?_⟩
  have hwrites := writeClosed_apart.commandItems s.params i
  have htake : ∀ j ∈ (commandItems s.params i).take k, Apart j.onAck := fun j hj => (hwrites j (List.mem_of_mem_take hj)).1
  have hfault := (hwrites it (List.mem_of_getElem? hit)).2
  obtain ⟨tr, an, po, li, q, hperform⟩ := performAll_eq_withRun _ htake 0 s.start
  rw [hperform, State.start_eq_withRun, writesOf_apart _ htake, State.acknowledge_withRun, hfault, hfault] at hexec
  rw [Host.Outcome.next.inj (h.symm.trans hexec)]
  exact sameRecord_abort (sameRecord_withRun _ _ _ _ _ _ _) _ _ _ _ _ _

/-! ### Positions in a list of events -/

/-- A position in two lists one after the other lies in the first or in the second, which says what comes before it. -/
theorem getElem?_append_cases {α : Type} {xs ys : List α} {k : Nat} {x : α} (h : (xs ++ ys)[k]? = some x) :
    (k < xs.length ∧ xs[k]? = some x ∧ (xs ++ ys).take k = xs.take k) ∨
    (xs.length ≤ k ∧ ys[k - xs.length]? = some x ∧ (xs ++ ys).take k = xs ++ ys.take (k - xs.length)) := by
  rcases Nat.lt_or_ge k xs.length with hk | hk
  · rw [List.getElem?_append_left hk] at h
    exact .inl ⟨hk, h, List.take_append_of_le_length hk.le⟩
  · rw [List.getElem?_append_right hk] at h
    exact .inr ⟨hk, h, by rw [List.take_append, List.take_of_length_le hk]⟩

/-- Before its last event a transaction has written nothing, and a fault of any of its events cuts it. -/
theorem txn_at {t : Transport} {bs : List Byte} {done cut : State → State} {k : Nat} {it : Item}
    (h : (txn t bs done cut)[k]? = some it) (s : State) :
    it.onFault = cut ∧ writesOf ((txn t bs done cut).take k) s = s := by
  refine ⟨(writes_of_mem_txn (List.mem_of_getElem? h)).2, writesOf_eq_self (fun j hj => ?_) s⟩
  have hk : k ≤ (txnHead t bs cut).length := by
    have := lt_length_of_getElem? h
    rw [txn_eq_head, List.length_append, List.length_singleton] at this
    omega
  rw [txn_eq_head, List.take_append_of_le_length hk] at hj
  exact onAck_of_mem_txnHead j (List.mem_of_mem_take hj)

/-- A fault at position `k` of register words cuts word `k / 7`; the words before it have been written (R125, R162). -/
theorem writeRegisters_at {t : Transport} {rs : List RegWrite} {k : Nat} {it : Item}
    (h : (writeRegisters t rs)[k]? = some it) (s : State) : ∃ r, rs[k / 7]? = some r ∧ it.onFault = r.cut ∧
      writesOf ((writeRegisters t rs).take k) s = (rs.take (k / 7)).foldl (fun u r => r.done u) s := by
  induction rs generalizing k s with
  | nil => cases h
  | cons r rs ih =>
    obtain ⟨hk, hit, htake⟩ | ⟨hk, hit, htake⟩ := getElem?_append_cases h <;> rw [length_writeWord] at hk
    · obtain ⟨hcut, hwrites⟩ := txn_at hit s
      have hdiv : k / 7 = 0 := by omega
      exact ⟨r, by rw [hdiv]; rfl, hcut, by rw [writeRegisters_cons, htake, hdiv]; exact hwrites⟩
    · rw [length_writeWord] at hit htake
      obtain ⟨n, rfl⟩ := Nat.exists_eq_add_of_le' hk
      have hdiv : (n + 7) / 7 = n / 7 + 1 := by omega
      rw [Nat.add_sub_cancel] at hit htake
      obtain ⟨r', hr', hcut, hwrites⟩ := ih hit (r.done s)
      refine ⟨r', by rw [hdiv]; exact hr', hcut, ?_⟩
      rw [writeRegisters_cons, htake, hdiv, writesOf_append, writeWord, writesOf_txn, hwrites, List.take_succ_cons,
        List.foldl_cons]

/-- The record after an aborted command of register words: the words before the one the fault fell in have been written, and
that one is cut. -/
theorem faultsAt_record_of_words {i : Instr} {s t : State} {k : Nat} {e : Event} {r : Reply} {rs : List RegWrite}
    (hi : commandItems s.params i = writeRegisters s.params.transport rs) (hw : wellFormed s.params i = true)
    (hs : s.atStart) (hf : s.FaultsAt (commandEvents s.params i) k e r) (h : exec i s = .next t) :
    ∃ w, rs[k / 7]? = some w ∧ SameRecord (w.cut ((rs.take (k / 7)).foldl (fun u r => r.done u) s)) t := by
  obtain ⟨it, hit, hrec⟩ := faultsAt_record hw hs hf h
  rw [hi] at hit hrec
  obtain ⟨w, hk, hcut, hwrites⟩ := writeRegisters_at hit s
  exact ⟨w, hk, by rw [← hcut, ← hwrites]; exact hrec⟩

/-- Of two words, position `k` lies in the first or in the second. -/
theorem pair_at {α : Type} {x y z : α} {k : Nat} (h : [x, y][k / 7]? = some z) :
    (k < 7 ∧ k / 7 = 0 ∧ z = x) ∨ (7 ≤ k ∧ k / 7 = 1 ∧ z = y) := by
  have hlt := lt_length_of_getElem? h
  rw [List.length_cons, List.length_singleton] at hlt
  rcases Nat.lt_or_ge k 7 with hk | hk
  · have h0 : k / 7 = 0 := by omega
    rw [h0] at h
    exact .inl ⟨hk, h0, (Option.some.inj h).symm⟩
  · have h1 : k / 7 = 1 := by omega
    rw [h1] at h
    exact .inr ⟨hk, h1, (Option.some.inj h).symm⟩

/-! ### Aborted commands -/

@[simp] theorem addrByte_lumEnableWord : addrByte lumEnableWord = 0x11 := addrByte_registerWord _ _
@[simp] theorem addrByte_lumValueWord (n : Byte) : addrByte (lumValueWord n) = 0x13 := addrByte_registerWord _ _
@[simp] theorem addrByte_orbHWord (h : Byte) : addrByte (orbHWord h) = 0x02 := addrByte_registerWord _ _
@[simp] theorem addrByte_orbVWord (v : Byte) : addrByte (orbVWord v) = 0x03 := addrByte_registerWord _ _

theorem Memory.read_erase (m : Memory) (a b : Byte) : (m.erase a).read b = if b = a then none else m.read b :=
  m.read_set a b none

/-- Settles O39: the word the fault fell in is cut, and the one before it has been sent. -/
theorem lumAbort : Obligations.LumAbort := by
  intro n b s t k e r hs hf h
  obtain ⟨w, hw, hlum, horbH, horbV, hpstate, hpreg⟩ := faultsAt_record_of_words rfl rfl hs hf h
  rw [hlum, horbH, horbV, hpstate, hpreg]
  obtain ⟨hk, hk', rfl⟩ | ⟨hk, hk', rfl⟩ := pair_at hw
  · simp +contextual [hk, hk', RegWrite.plain, Memory.read_erase]
  · simp +contextual [show ¬ k < 7 by omega, hk', RegWrite.plain, lumWrite, Memory.read_erase, Memory.read_set]

/-- Settles O40, by the same two cases. -/
theorem orbAbort : Obligations.OrbAbort := by
  intro x y s t k e r hs hf h
  obtain ⟨w, hw, hlum, horbH, horbV, hpstate, hpreg⟩ := faultsAt_record_of_words rfl rfl hs hf h
  obtain ⟨hk, hk', rfl⟩ | ⟨hk, hk', rfl⟩ := pair_at hw
  · rw [hlum, horbH, horbV, hpstate, hpreg]
    simp +contextual [hk, hk', orbHWrite, Memory.read_erase]
  · have hsent : t.orbH = if s.pstate = .active then some (orbValue x) else none := by
      rw [horbH, hk']
      rfl
    rw [hlum, hsent, horbV, hpstate, hpreg, orbValue_eq]
    simp +contextual [show ¬ k < 7 by omega, hk', orbHWrite, orbVWrite, Memory.read_erase, Memory.read_set]

/-- Probe words write neither the shadows nor `pstate`. -/
theorem probeWrites_keep (ws : List Word16) (s : State) :
    ((ws.map probeWrite).foldl (fun u r => r.done u) s).lum = s.lum ∧
    ((ws.map probeWrite).foldl (fun u r => r.done u) s).orbH = s.orbH ∧
    ((ws.map probeWrite).foldl (fun u r => r.done u) s).orbV = s.orbV ∧
    ((ws.map probeWrite).foldl (fun u r => r.done u) s).pstate = s.pstate := by
  induction ws generalizing s with
  | nil => exact ⟨rfl, rfl, rfl, rfl⟩
  | cons w ws ih => exact ih (s.panelCut w)

/-- Settles O43: no state write of PROBE writes the shadows or `pstate`, and the cut one loses its register's value. -/
theorem probeAbort : Obligations.ProbeAbort := by
  intro a b s t k e r w hp hs hf hw h
  obtain ⟨r', hr', hrec⟩ := faultsAt_record_of_words (i := .probe a b) rfl hp hs hf h
  rw [List.getElem?_map, hw] at hr'
  cases hr'
  rw [← List.map_take] at hrec
  obtain ⟨hlum, horbH, horbV, hpstate⟩ := probeWrites_keep ((probeSequence s.params.probeWords).take (k / 7)) s
  refine ⟨hrec.pstate.trans hpstate, hrec.lum.trans hlum, hrec.orbH.trans horbH, hrec.orbV.trans horbV, ?_⟩
  rw [hrec.preg]
  exact Memory.read_erase_same _ _

end Sys2Proof.Machine
end

section
/-! PROOFS. Aborted power commands and aborted INIT (O41, O42), and the frames: what each command leaves unchanged, however
the Transport answers (O46 to O50). -/

namespace Sys2Proof.Machine

/-! ### The parts of INIT's list (R164, R166) -/

/-- INIT's events before its first `SetLine(RST, 0)`. -/
def initPre (p : Params) : List Item :=
  match p.transport with
  | .bitbang => [Item.plain (.setLine .data .low), Item.plain (.setLine .clk .low)]
  | .hwspi => []

/-- INIT's events between its first `SetLine(RST, 0)` and its last event. -/
def initMid (p : Params) : List Item :=
  Item.plain (.setLine .cs .high) :: (if p.hasPwr then [powerLow] else [])
    ++ [Item.plain (.wait tReset), Item.plain (.setLine .rst .low), Item.plain (.wait tReset),
      Item.plain (.setLine .rst .high), Item.plain (.wait tReset)]
    ++ txnHead p.transport p.initTable State.panelLost

/-- The position of INIT's first `SetLine(RST, 0)`. -/
def initResetPosition (p : Params) : Nat :=
  match p.transport with
  | .bitbang => 2
  | .hwspi => 0

theorem length_initPre (p : Params) : (initPre p).length = initResetPosition p := by
  unfold initPre initResetPosition
  cases p.transport <;> rfl

theorem initItems_eq (p : Params) : initItems p = initPre p ++ ⟨.setLine .rst .low, State.panelReset, id⟩ ::
    (initMid p ++ [⟨.wait (tIdle p.transport), State.panelInitialised, State.panelLost⟩]) := by
  rw [initItems, initLines, burstWrite, txn_eq_head, initPre, initMid]
  cases p.transport <;> simp

theorem writes_of_mem_initPre {p : Params} {it : Item} (h : it ∈ initPre p) : it.onAck = id ∧ it.onFault = id := by
  unfold initPre at h
  split at h <;> simp only [List.mem_cons, List.not_mem_nil, or_false] at h
  rcases h with rfl | rfl <;> exact ⟨rfl, rfl⟩

theorem onFault_of_mem_txnHead {t : Transport} {bs : List Byte} {cut : State → State} {it : Item}
    (h : it ∈ txnHead t bs cut) : it.onFault = cut := by
  have hmem : it ∈ txn t bs id cut := by
    rw [txn_eq_head]
    exact List.mem_append_left _ h
  exact (writes_of_mem_txn hmem).2

/-- Between the reset assertion and its end INIT's state writes are the loss of the panel image alone. -/
theorem writes_of_mem_initMid {p : Params} {it : Item} (h : it ∈ initMid p) :
    (it.onAck = id ∨ it.onAck = State.panelLost) ∧ (it.onFault = id ∨ it.onFault = State.panelLost) := by
  rw [initMid, List.mem_append, List.mem_append, List.mem_cons] at h
  obtain ((rfl | h) | h) | h := h
  · exact ⟨.inl rfl, .inl rfl⟩
  · split at h <;> simp only [List.mem_cons, List.not_mem_nil, or_false] at h
    exact h ▸ ⟨.inr rfl, .inl rfl⟩
  · simp only [List.mem_cons, List.not_mem_nil, or_false] at h
    rcases h with rfl | rfl | rfl | rfl | rfl <;> exact ⟨.inl rfl, .inl rfl⟩
  · exact ⟨.inl (onAck_of_mem_txnHead it h), .inr (onFault_of_mem_txnHead h)⟩

/-- The state writes of INIT's event at each position. -/
theorem initItems_at {p : Params} {k : Nat} {it : Item} (h : (initItems p)[k]? = some it) :
    (k < initResetPosition p ∧ it.onAck = id ∧ it.onFault = id) ∨
    (k = initResetPosition p ∧ it.onAck = State.panelReset ∧ it.onFault = id) ∨
    (initResetPosition p < k ∧ k + 1 < (initItems p).length ∧ (it.onAck = id ∨ it.onAck = State.panelLost) ∧
      (it.onFault = id ∨ it.onFault = State.panelLost)) ∨
    (initResetPosition p < k ∧ k + 1 = (initItems p).length ∧ it.onAck = State.panelInitialised ∧
      it.onFault = State.panelLost) := by
  have hlen : (initItems p).length = initResetPosition p + 1 + (initMid p).length + 1 := by
    rw [initItems_eq, List.length_append, List.length_cons, List.length_append, List.length_singleton, length_initPre]
    omega
  rw [initItems_eq] at h
  obtain ⟨hk, hit, -⟩ | ⟨hk, hit, -⟩ := getElem?_append_cases h <;> rw [length_initPre] at hk
  · exact .inl ⟨hk, writes_of_mem_initPre (List.mem_of_getElem? hit)⟩
  · rw [length_initPre] at hit
    obtain ⟨m, rfl⟩ := Nat.exists_eq_add_of_le hk
    rw [Nat.add_sub_cancel_left] at hit
    match m with
    | 0 =>
      cases hit
      exact .inr (.inl ⟨rfl, rfl, rfl⟩)
    | m + 1 =>
      rw [List.getElem?_cons_succ] at hit
      obtain ⟨hm, hit, -⟩ | ⟨hm, hit, -⟩ := getElem?_append_cases hit
      · obtain ⟨hack, hfault⟩ := writes_of_mem_initMid (List.mem_of_getElem? hit)
        exact .inr (.inr (.inl ⟨by omega, by omega, hack, hfault⟩))
      · have hlast := lt_length_of_getElem? hit
        rw [List.length_singleton] at hlast
        have hzero : m - (initMid p).length = 0 := by omega
        rw [hzero] at hit
        cases hit
        exact .inr (.inr (.inr ⟨by omega, by omega, rfl, rfl⟩))

/-! ### Aborted INIT (R166, R176) -/

/-- The reset assertion's state: RESET, no shadow and no panel register with a value. -/
structure State.PanelInReset (s : State) : Prop where
  pstate : s.pstate = .reset
  lum : s.lum = none
  orbH : s.orbH = none
  orbV : s.orbV = none
  preg : s.preg = []

theorem panelInReset_panelReset (s : State) : s.panelReset.PanelInReset := ⟨rfl, rfl, rfl, rfl, rfl⟩

/-- Losing the panel image, or nothing, keeps it. -/
theorem State.PanelInReset.write {s : State} (h : s.PanelInReset) {f : State → State}
    (hf : f = id ∨ f = State.panelLost) : (f s).PanelInReset := by
  obtain rfl | rfl := hf
  · exact h
  · exact { h with preg := rfl }

theorem SameRecord.panelInReset {s t : State} (h : SameRecord s t) (hs : s.PanelInReset) : t.PanelInReset where
  pstate := h.pstate.trans hs.pstate
  lum := h.lum.trans hs.lum
  orbH := h.orbH.trans hs.orbH
  orbV := h.orbV.trans hs.orbV
  preg := h.preg.trans hs.preg

/-- A condition on the state before each event, along the state writes. -/
theorem writesOf_take_induction {R : Nat → State → Prop} {items : List Item} {s : State} (h0 : R 0 s)
    (h : ∀ k it u, items[k]? = some it → R k u → R (k + 1) (it.onAck u)) {k : Nat} (hk : k ≤ items.length) :
    R k (writesOf (items.take k) s) := by
  induction k with
  | zero => exact h0
  | succ k ih =>
    have hget : items[k]? = some items[k] := List.getElem?_eq_getElem (by omega)
    rw [List.take_add_one, hget, writesOf_append]
    exact h k _ _ hget (ih (by omega))

/-- Up to the reset assertion INIT has written nothing; from there until its end the panel is in reset. -/
theorem writesOf_initItems_take {p : Params} {k : Nat} (hk : k < (initItems p).length) (s : State) :
    (k ≤ initResetPosition p ∧ writesOf ((initItems p).take k) s = s) ∨
    (initResetPosition p < k ∧ (writesOf ((initItems p).take k) s).PanelInReset) := by
  have hinduct := writesOf_take_induction (items := initItems p) (s := s)
    (R := fun k u => (k ≤ initResetPosition p ∧ u = s) ∨
      (initResetPosition p < k ∧ (k < (initItems p).length → u.PanelInReset)))
    (.inl ⟨Nat.zero_le _, rfl⟩) ?_ hk.le
  · exact hinduct.imp_right fun h => ⟨h.1, h.2 hk⟩
  · intro k it u hit hu
    obtain ⟨hk, hack, -⟩ | ⟨hk, hack, -⟩ | ⟨hk, -, hack, -⟩ | ⟨hk, hlast, -, -⟩ := initItems_at hit
    · obtain ⟨-, rfl⟩ | ⟨hk', -⟩ := hu
      · exact .inl ⟨hk, hack ▸ rfl⟩
      · omega
    · exact .inr ⟨by omega, fun _ => hack ▸ panelInReset_panelReset u⟩
    · obtain ⟨hk', -⟩ | ⟨-, hu⟩ := hu
      · omega
      · exact .inr ⟨by omega, fun _ => (hu (by omega)).write hack⟩
    · exact .inr ⟨by omega, fun h => by omega⟩

/-- Settles O41: the fault's own state write is none up to the reset assertion, and the loss of the panel image at most
later. -/
theorem initAbort : Obligations.InitAbort := by
  intro a b s t k e r hs hf h
  show if k ≤ initResetPosition s.params then _ else _
  obtain ⟨it, hit, hrec⟩ := faultsAt_record rfl hs hf h
  have hat := initItems_at hit
  obtain ⟨hk, heq⟩ | ⟨hk, hreset⟩ := writesOf_initItems_take (lt_length_of_getElem? hit) s
  · have hfault : it.onFault = id := by
      obtain ⟨-, -, hfault⟩ | ⟨-, -, hfault⟩ | ⟨hk', -⟩ | ⟨hk', -⟩ := hat
      · exact hfault
      · exact hfault
      all_goals omega
    have hrec : SameRecord s t := by
      rw [hfault, commandItems, heq] at hrec
      exact hrec
    rw [if_pos hk]
    exact ⟨hrec.pstate, hrec.lum, hrec.orbH, hrec.orbV⟩
  · have hfault : it.onFault = id ∨ it.onFault = State.panelLost := by
      obtain ⟨hk', -⟩ | ⟨hk', -⟩ | ⟨-, -, -, hfault⟩ | ⟨-, -, -, hfault⟩ := hat
      · omega
      · omega
      · exact hfault
      · exact .inr hfault
    have hreset := hrec.panelInReset (hreset.write hfault)
    rw [if_neg (by omega)]
    exact ⟨hreset.pstate, hreset.lum, hreset.orbH, hreset.orbV, fun x => hreset.preg ▸ Memory.read_nil x⟩

/-! ### Aborted PON and POFF (R168, R170, R176) -/

/-- PON's and POFF's events for the power line. -/
def ponPower (p : Params) : List Item :=
  if p.hasPwr then [Item.plain (.setLine .pwr .high), Item.plain (.wait tPwr)] else []

def poffPower (p : Params) : List Item :=
  if p.hasPwr then [Item.plain (.wait tPwr), powerLow] else []

/-- PON's and POFF's register words with their state writes. -/
def ponWords : List RegWrite :=
  [RegWrite.plain modeSelectWord,
    ⟨confirmOnWord, fun s => s.panelOn.panelSent confirmOnWord, State.panelCut confirmOnWord⟩]

def poffWords : List RegWrite :=
  [RegWrite.plain modeSelectWord,
    ⟨confirmOffWord, fun s => (s.panelSent confirmOffWord).panelOff, State.panelCut confirmOffWord⟩]

theorem ponItems_eq (p : Params) : ponItems p = ponPower p ++ writeRegisters p.transport ponWords := rfl

theorem poffItems_eq (p : Params) : poffItems p = writeRegisters p.transport poffWords ++ poffPower p := rfl

theorem writes_of_mem_ponPower {p : Params} {it : Item} (h : it ∈ ponPower p) : it.onAck = id ∧ it.onFault = id := by
  unfold ponPower at h
  split at h <;> simp only [List.mem_cons, List.not_mem_nil, or_false] at h
  rcases h with rfl | rfl <;> exact ⟨rfl, rfl⟩

theorem writes_of_mem_poffPower {p : Params} {it : Item} (h : it ∈ poffPower p) :
    (it.onAck = id ∨ it.onAck = State.panelLost) ∧ it.onFault = id := by
  unfold poffPower at h
  split at h <;> simp only [List.mem_cons, List.not_mem_nil, or_false] at h
  rcases h with rfl | rfl
  · exact ⟨.inl rfl, rfl⟩
  · exact ⟨.inr rfl, rfl⟩

/-- The shadows are the same, and `pstate` is this. -/
structure KeepsShadows (q : PState) (s t : State) : Prop where
  pstate : t.pstate = q
  lum : t.lum = s.lum
  orbH : t.orbH = s.orbH
  orbV : t.orbV = s.orbV

theorem SameRecord.keepsShadows {q : PState} {s u t : State} (h : SameRecord u t) (hu : KeepsShadows q s u) :
    KeepsShadows q s t :=
  ⟨h.pstate.trans hu.pstate, h.lum.trans hu.lum, h.orbH.trans hu.orbH, h.orbV.trans hu.orbV⟩

/-- Wherever PON is cut, `pstate` has not moved: it moves with PON's last event. -/
theorem ponItems_fault {p : Params} {k : Nat} {it : Item} (h : (ponItems p)[k]? = some it) (s : State) :
    KeepsShadows s.pstate s (it.onFault (writesOf ((ponItems p).take k) s)) := by
  rw [ponItems_eq] at h ⊢
  obtain ⟨-, hit, htake⟩ | ⟨-, hit, htake⟩ := getElem?_append_cases h <;> rw [htake]
  · rw [writesOf_eq_self (fun j hj => (writes_of_mem_ponPower (List.mem_of_mem_take hj)).1),
      (writes_of_mem_ponPower (List.mem_of_getElem? hit)).2]
    exact ⟨rfl, rfl, rfl, rfl⟩
  · obtain ⟨w, hw, hcut, hwrites⟩ := writeRegisters_at hit s
    rw [writesOf_append, writesOf_eq_self (fun j hj => (writes_of_mem_ponPower hj).1), hcut, hwrites]
    obtain ⟨-, hk, rfl⟩ | ⟨-, hk, rfl⟩ := pair_at hw <;> rw [hk] <;> exact ⟨rfl, rfl, rfl, rfl⟩

/-- Losing the panel image, or nothing, touches neither shadows nor `pstate`. -/
theorem KeepsShadows.writesOf {q : PState} {s u : State} {items : List Item}
    (hi : ∀ it ∈ items, it.onAck = id ∨ it.onAck = State.panelLost) (hu : KeepsShadows q s u) :
    KeepsShadows q s (writesOf items u) := by
  induction items generalizing u with
  | nil => exact hu
  | cons it rest ih =>
    have hit : KeepsShadows q s (it.onAck u) := by
      obtain h | h := hi it List.mem_cons_self <;> rw [h]
      · exact hu
      · exact { hu with }
    exact ih (fun j hj => hi j (List.mem_cons_of_mem _ hj)) hit

/-- POFF moves `pstate` with the last event of its words, at position 13. -/
theorem poffItems_fault {p : Params} {k : Nat} {it : Item} (h : (poffItems p)[k]? = some it) (s : State) :
    KeepsShadows (if 14 ≤ k then s.pstate.afterPoff else s.pstate) s (it.onFault (writesOf ((poffItems p).take k) s)) := by
  have hlen : (writeRegisters p.transport poffWords).length = 14 := length_writeRegisters _ _
  rw [poffItems_eq] at h ⊢
  obtain ⟨hk, hit, htake⟩ | ⟨hk, hit, htake⟩ := getElem?_append_cases h <;> rw [htake] <;> rw [hlen] at hk
  · obtain ⟨w, hw, hcut, hwrites⟩ := writeRegisters_at hit s
    rw [if_neg (by omega), hcut, hwrites]
    obtain ⟨-, hk, rfl⟩ | ⟨-, hk, rfl⟩ := pair_at hw <;> rw [hk] <;> exact ⟨rfl, rfl, rfl, rfl⟩
  · rw [if_pos hk, (writes_of_mem_poffPower (List.mem_of_getElem? hit)).2, writesOf_append, writesOf_writeRegisters]
    refine KeepsShadows.writesOf (fun j hj => (writes_of_mem_poffPower (List.mem_of_mem_take hj)).1) ?_
    exact ⟨rfl, rfl, rfl, rfl⟩

/-- Settles O42: by the state writes before the fault. -/
theorem powerCommandAbort : Obligations.PowerCommandAbort := by
  intro a b s t k e r hs
  refine ⟨fun hf h => ?_, fun hf h => ?_⟩ <;> obtain ⟨it, hit, hrec⟩ := faultsAt_record rfl hs hf h
  · obtain ⟨hq, hlum, horbH, horbV⟩ := hrec.keepsShadows (ponItems_fault hit s)
    exact ⟨hq, hlum, horbH, horbV⟩
  · obtain ⟨hq, hlum, horbH, horbV⟩ := hrec.keepsShadows (poffItems_fault hit s)
    refine ⟨hq.trans ?_, hlum, horbH, horbV⟩
    cases s.pstate <;> rfl

/-! ### Frames: what every command leaves unchanged -/

theorem runClosed_trace (s : State) : RunClosed (fun _ => True) fun u => s.trace <+: u.trace where
  abortLine := trivial
  abortWait _ := trivial
  offer _ _ _ h := h
  acknowledge _ _ _ _ h := h.trans (List.prefix_append _ _)
  moveTo _ _ h := h
  enterAbort _ h := h
  complete _ h := h
  completeFault _ h := h

/-- The trace only grows (R33). -/
theorem exec_trace {i : Instr} {s t : State} (h : exec i s = .next t) : ∃ d, t.trace = s.trace ++ d := by
  obtain ⟨d, hd⟩ := exec_keeps (runClosed_trace s) (fun _ hu => hu) (fun f hf u hu => (hf.trace u).symm ▸ hu)
    (fun _ hu => hu) h (List.prefix_refl _)
  exact ⟨d, hd.symm⟩

/-- The events of a run that do not drive a line leave its latch; CS is the abort procedure's. -/
theorem runClosed_line (s : State) {id : LineId} (hcs : id ≠ .cs) :
    RunClosed (fun e => ∀ level, e ≠ .setLine id level) fun u => u.lines.get id = s.lines.get id where
  abortLine level he := hcs (by cases he; rfl)
  abortWait _ := nofun
  offer _ _ _ h := h
  acknowledge _ r u he h := (u.lines.get_afterEvent r he).trans h
  moveTo _ _ h := h
  enterAbort _ h := h
  complete _ h := h
  completeFault _ h := h

theorem exec_line {i : Instr} {s t : State} {id : LineId} (hcs : id ≠ .cs)
    (hid : ∀ level, .setLine id level ∉ commandEvents s.params i) (h : exec i s = .next t) :
    t.lines.get id = s.lines.get id := by
  obtain ⟨-, rfl⟩ | ⟨-, rfl⟩ := exec_cases h
  · refine runCommand_keeps (runClosed_line s hcs) (fun _ hu => hu) _
      (fun it hit => ⟨fun level he => ?_, fun u hu => ?_⟩) s rfl
    · exact hid level (he ▸ List.mem_map_of_mem hit)
    · obtain ⟨hack, hfault⟩ := lawful_commandItems s.params i it hit
      exact ⟨(congrArg (·.get id) (hack.lines u)).trans hu, (congrArg (·.get id) (hfault.lines u)).trans hu⟩
  · rfl

/-- A condition on the record alone. -/
def OnRecord (P : State → Prop) : Prop := ∀ {u v : State}, SameRecord u v → P u → P v

theorem SameRecord.refl (s : State) : SameRecord s s := ⟨rfl, rfl, rfl, rfl, rfl⟩

theorem OnRecord.runClosed {P : State → Prop} (hP : OnRecord P) : RunClosed (fun _ => True) P where
  abortLine := trivial
  abortWait _ := trivial
  offer e s he h := hP ((runClosed_sameRecord s).offer e s he (.refl s)) h
  acknowledge e r s he h := hP ((runClosed_sameRecord s).acknowledge e r s he (.refl s)) h
  moveTo q s h := hP ((runClosed_sameRecord s).moveTo q s (.refl s)) h
  enterAbort s h := hP ((runClosed_sameRecord s).enterAbort s (.refl s)) h
  complete s h := hP ((runClosed_sameRecord s).complete s (.refl s)) h
  completeFault s h := hP ((runClosed_sameRecord s).completeFault s (.refl s)) h

theorem OnRecord.start {P : State → Prop} (hP : OnRecord P) {s : State} (h : P s) : P s.start :=
  hP (u := s) ⟨rfl, rfl, rfl, rfl, rfl⟩ h

theorem OnRecord.completeIllegal {P : State → Prop} (hP : OnRecord P) {s : State} (h : P s) : P s.completeIllegal :=
  hP (u := s) ⟨rfl, rfl, rfl, rfl, rfl⟩ h

/-- A condition on the record before each event of a command, however the run goes: `R k` before event `k`, `Q` at the
end. -/
theorem exec_record_at {R : Nat → State → Prop} {Q : State → Prop} (hR : ∀ k, OnRecord (R k)) (hQ : OnRecord Q)
    {i : Instr} {s t : State}
    (hack : ∀ {k it u}, (commandItems s.params i)[k]? = some it → u.params = s.params → R k u → R (k + 1) (it.onAck u))
    (hfault : ∀ {k it u}, (commandItems s.params i)[k]? = some it → R k u → Q (it.onFault u))
    (hend : ∀ {k u}, R k u → Q u) (hstart : s.busy = false ∨ s.seq = .idle → R 0 s)
    (hrunning : ∀ k, s.busy = true → s.seq = .running k → R k s)
    (haborting : ∀ k, s.busy = true → s.seq = .aborting k → Q s) (hillegal : wellFormed s.params i = false → Q s)
    (h : exec i s = .next t) : Q t := by
  have hclosed (k : Nat) : RunClosed (fun _ => True) (R k) := OnRecord.runClosed (hR k)
  have hrun : RunProof (commandItems s.params i) (abortEvents s.params.transport)
      (fun k u => u.params = s.params ∧ R k u) (fun _ u => Q u) Q := {
    offer := fun _ hu => hQ.runClosed.offer _ _ trivial (hend hu.2)
    ack := fun hit hu =>
      ⟨((lawful_commandItems s.params i _ (List.mem_of_getElem? hit)).1.params _).trans hu.1,
        hack hit hu.1 ((hclosed _).moveTo _ _ ((hclosed _).acknowledge _ _ _ trivial hu.2))⟩
    fault := fun hit _ hu =>
      ⟨hu.1 ▸ rfl, hQ.runClosed.enterAbort _ (hfault hit ((hclosed _).acknowledge _ _ _ trivial hu.2))⟩
    complete := fun _ hu => hQ.runClosed.complete _ (hend hu.2)
    offerAbort := fun _ hu => hQ.runClosed.offer _ _ trivial hu
    ackAbort := fun _ _ hu => hQ.runClosed.moveTo _ _ (hQ.runClosed.acknowledge _ _ _ trivial hu)
    completeFault := fun _ hu => hQ.runClosed.completeFault _ hu }
  obtain ⟨-, rfl⟩ | ⟨hw, rfl⟩ := exec_cases h
  · exact hrun.runCommand rfl (fun h' => ⟨rfl, OnRecord.start (hR 0) (hstart h')⟩)
      (fun k hb hs => ⟨rfl, hrunning k hb hs⟩) haborting
  · exact hQ.completeIllegal (hillegal hw)

/-! ### The frames of LUM, ORB and PROBE: commands that are register words -/

theorem read_panelSent {w : Word16} {a : Byte} (h : a ≠ addrByte w) (s : State) :
    (s.panelSent w).preg.read a = s.preg.read a := by
  rw [State.panelSent_preg, Memory.read_set, if_neg h]

theorem read_panelCut {w : Word16} {a : Byte} (h : a ≠ addrByte w) (s : State) :
    (s.panelCut w).preg.read a = s.preg.read a :=
  Memory.read_erase_other _ h

section
variable {i : Instr} {s t : State} {rs : List RegWrite}
  (hi : commandItems s.params i = writeRegisters s.params.transport rs) (h : exec i s = .next t)
include hi h

/-- Register words drive chip-select alone (R121, R125). -/
theorem exec_line_of_words {id : LineId} (hcs : id ≠ .cs) : t.lines.get id = s.lines.get id := by
  refine exec_line hcs (fun level hmem => ?_) h
  rw [commandEvents, hi, events_writeRegisters, List.mem_flatMap] at hmem
  obtain ⟨r, -, hmem⟩ := hmem
  simp [wordEvents, hcs] at hmem

/-- A part of the record that no word's state write changes, the command leaves unchanged. -/
theorem exec_part_of_words {α : Type} {g : State → α} (hg : ∀ {u v}, SameRecord u v → g v = g u)
    (hrs : ∀ r ∈ rs, ∀ u, g (r.done u) = g u ∧ g (r.cut u) = g u) : g t = g s := by
  have hP : OnRecord fun u => g u = g s := fun huv hu => (hg huv).trans hu
  obtain ⟨-, rfl⟩ | ⟨-, rfl⟩ := exec_cases h
  · rw [hi]
    refine runCommand_keeps hP.runClosed (fun _ => hP.start) _ (fun it hit => ⟨trivial, ?_⟩) s rfl
    exact writeRegisters_keeps _ _ (fun r hr u hu => ⟨(hrs r hr u).1.trans hu, (hrs r hr u).2.trans hu⟩) it hit
  · exact hP.completeIllegal rfl

/-- So does a panel register that no word addresses, when the words' state writes touch only what they address. -/
theorem exec_register_of_words {a : Byte}
    (hrs : ∀ r ∈ rs, ∀ u, (r.done u).preg.read a = u.preg.read a ∧ (r.cut u).preg.read a = u.preg.read a) :
    t.preg.read a = s.preg.read a :=
  exec_part_of_words hi h (g := fun u => u.preg.read a) (fun huv => congrArg (·.read a) huv.preg) hrs

end

/-- Settles O46: of the record, LUM's words write `lum` and the registers they address. -/
theorem lumFrame : Obligations.LumFrame := by
  intro n b s t h
  obtain ⟨hp, hop, ha, hb, hhost, hrest⟩ := exec_sameCommand h
  refine ⟨hp, hop, ha, hb, exec_part_of_words rfl h (g := State.orbH) (·.orbH) ?_,
    exec_part_of_words rfl h (g := State.orbV) (·.orbV) ?_, exec_part_of_words rfl h (g := State.pstate) (·.pstate) ?_,
    hhost, hrest, fun id hid => exec_line_of_words rfl h hid, exec_trace h,
    fun a ha ha' => exec_register_of_words rfl h ?_⟩
  · simp [RegWrite.plain, lumWrite]
  · simp [RegWrite.plain, lumWrite]
  · simp [RegWrite.plain, lumWrite]
  · have h1 : a ≠ addrByte lumEnableWord := by rwa [addrByte_lumEnableWord]
    have h2 : a ≠ addrByte (lumValueWord n) := by rwa [addrByte_lumValueWord]
    simp only [List.forall_mem_cons]
    exact ⟨fun u => ⟨read_panelSent h1 u, read_panelCut h1 u⟩, fun u => ⟨read_panelSent h2 u, read_panelCut h2 u⟩, nofun⟩

/-- Settles O47: of the record, ORB's words write the orbit shadows and the registers they address. -/
theorem orbFrame : Obligations.OrbFrame := by
  intro x y s t h
  obtain ⟨hp, hop, ha, hb, hhost, hrest⟩ := exec_sameCommand h
  refine ⟨hp, hop, ha, hb, exec_part_of_words rfl h (g := State.lum) (·.lum) ?_,
    exec_part_of_words rfl h (g := State.pstate) (·.pstate) ?_, hhost, hrest,
    fun id hid => exec_line_of_words rfl h hid, exec_trace h, fun a ha ha' => exec_register_of_words rfl h ?_⟩
  · simp [orbHWrite, orbVWrite]
  · simp [orbHWrite, orbVWrite]
  · have h1 : a ≠ addrByte (orbHWord x) := by rwa [addrByte_orbHWord]
    have h2 : a ≠ addrByte (orbVWord y) := by rwa [addrByte_orbVWord]
    simp only [List.forall_mem_cons]
    exact ⟨fun u => ⟨read_panelSent h1 u, read_panelCut h1 u⟩, fun u => ⟨read_panelSent h2 u, read_panelCut h2 u⟩, nofun⟩

/-- Settles O48: of the record, PROBE's words write the registers they address. -/
theorem probeFrame : Obligations.ProbeFrame := by
  intro a b s t h
  obtain ⟨hp, hop, ha, hb, hhost, hrest⟩ := exec_sameCommand h
  have hprobe {α : Type} {g : State → α} (hg : ∀ w u, g (State.panelCut w u) = g u) :
      ∀ r ∈ (probeSequence s.params.probeWords).map probeWrite, ∀ u, g (r.done u) = g u ∧ g (r.cut u) = g u :=
    List.forall_mem_map.2 fun w _ u => ⟨hg w u, hg w u⟩
  exact ⟨hp, hop, ha, hb, exec_part_of_words rfl h (g := State.lum) (·.lum) (hprobe fun _ _ => rfl),
    exec_part_of_words rfl h (g := State.orbH) (·.orbH) (hprobe fun _ _ => rfl),
    exec_part_of_words rfl h (g := State.orbV) (·.orbV) (hprobe fun _ _ => rfl),
    exec_part_of_words rfl h (g := State.pstate) (·.pstate) (hprobe fun _ _ => rfl), hhost, hrest,
    fun id hid => exec_line_of_words rfl h hid, exec_trace h, fun x hx => exec_register_of_words rfl h
      (List.forall_mem_map.2 fun w hw u => and_self_iff.2 (read_panelCut (hx w hw) u))⟩

/-! ### The frame of PON and POFF -/

/-- The shadows and every panel register but `0x00` are the same. -/
structure PowerFrame (s t : State) : Prop where
  lum : t.lum = s.lum
  orbH : t.orbH = s.orbH
  orbV : t.orbV = s.orbV
  preg : ∀ x : Byte, x ≠ 0x00 → t.preg.read x = s.preg.read x

/-- The shadows are the same; of the panel image too every register but `0x00`, or PWR driven low has lost it whole. -/
structure PowerFrameEnd (hasPwr : Prop) (s t : State) : Prop where
  lum : t.lum = s.lum
  orbH : t.orbH = s.orbH
  orbV : t.orbV = s.orbV
  preg : ∀ x : Byte, x ≠ 0x00 → t.preg.read x = s.preg.read x ∨ hasPwr ∧ t.preg = []

theorem onRecord_powerFrame (s : State) : OnRecord (PowerFrame s) := by
  rintro u v ⟨h1, h2, h3, -, h4⟩ ⟨g1, g2, g3, g4⟩
  exact ⟨h1.trans g1, h2.trans g2, h3.trans g3, h4 ▸ g4⟩

theorem onRecord_powerFrameEnd (hasPwr : Prop) (s : State) : OnRecord (PowerFrameEnd hasPwr s) := by
  rintro u v ⟨h1, h2, h3, -, h4⟩ ⟨g1, g2, g3, g4⟩
  exact ⟨h1.trans g1, h2.trans g2, h3.trans g3, h4 ▸ g4⟩

theorem PowerFrame.toEnd {s t : State} (h : PowerFrame s t) (hasPwr : Prop) : PowerFrameEnd hasPwr s t :=
  { h with preg := fun x hx => .inl (h.preg x hx) }

/-- The words of PON and POFF address register `0x00` alone. -/
theorem PowerFrame.panelSent {s u : State} (h : PowerFrame s u) {w : Word16} (hw : addrByte w = 0x00) :
    PowerFrame s (u.panelSent w) :=
  { h with preg := fun x hx => (read_panelSent (hw ▸ hx) u).trans (h.preg x hx) }

theorem PowerFrame.panelCut {s u : State} (h : PowerFrame s u) {w : Word16} (hw : addrByte w = 0x00) :
    PowerFrame s (u.panelCut w) :=
  { h with preg := fun x hx => (read_panelCut (hw ▸ hx) u).trans (h.preg x hx) }

theorem powerFrame_of_mem_ponItems {p : Params} {it : Item} (h : it ∈ ponItems p) {s u : State} (hu : PowerFrame s u) :
    PowerFrame s (it.onAck u) ∧ PowerFrame s (it.onFault u) := by
  rw [ponItems_eq, List.mem_append] at h
  obtain h | h := h
  · obtain ⟨hack, hfault⟩ := writes_of_mem_ponPower h
    exact ⟨hack ▸ hu, hfault ▸ hu⟩
  · refine writeRegisters_keeps _ _ ?_ it h u hu
    simp only [ponWords, List.forall_mem_cons]
    refine ⟨fun v hv => ⟨hv.panelSent (by simp), hv.panelCut (by simp)⟩, fun v hv => ⟨?_, hv.panelCut (by simp)⟩, nofun⟩
    exact PowerFrame.panelSent (u := v.panelOn) { hv with } (by simp)

theorem powerFrame_of_mem_poffWords {p : Params} {it : Item} (h : it ∈ writeRegisters p.transport poffWords)
    {s u : State} (hu : PowerFrame s u) : PowerFrame s (it.onAck u) ∧ PowerFrame s (it.onFault u) := by
  refine writeRegisters_keeps _ _ ?_ it h u hu
  simp only [poffWords, List.forall_mem_cons]
  refine ⟨fun v hv => ⟨hv.panelSent (by simp), hv.panelCut (by simp)⟩, fun v hv => ⟨?_, hv.panelCut (by simp)⟩, nofun⟩
  exact { hv.panelSent (w := confirmOffWord) (by simp) with }

theorem exec_pon_frame {a b : Byte} {s t : State} (h : exec (.pon a b) s = .next t) : PowerFrame s t :=
  exec_record_at (R := fun _ => PowerFrame s) (fun _ => onRecord_powerFrame s) (onRecord_powerFrame s)
    (fun hit _ hu => (powerFrame_of_mem_ponItems (List.mem_of_getElem? hit) hu).1)
    (fun hit hu => (powerFrame_of_mem_ponItems (List.mem_of_getElem? hit) hu).2) id
    (fun _ => ⟨rfl, rfl, rfl, fun _ _ => rfl⟩) (fun _ _ _ => ⟨rfl, rfl, rfl, fun _ _ => rfl⟩)
    (fun _ _ _ => ⟨rfl, rfl, rfl, fun _ _ => rfl⟩) (fun _ => ⟨rfl, rfl, rfl, fun _ _ => rfl⟩) h

/-- POFF's event at each position: one of its words', the wait, or `SetLine(PWR, 0)`, which is the last. -/
theorem poffItems_at {p : Params} {k : Nat} {it : Item} (h : (poffItems p)[k]? = some it) :
    it ∈ writeRegisters p.transport poffWords ∨ it = Item.plain (.wait tPwr) ∨
      (it = powerLow ∧ p.hasPwr = true ∧ k + 1 = (poffItems p).length) := by
  rw [poffItems_eq] at h ⊢
  obtain ⟨-, hit, -⟩ | ⟨hk, hit, -⟩ := getElem?_append_cases h
  · exact .inl (List.mem_of_getElem? hit)
  · cases hp : p.hasPwr with
    | false => simp [poffPower, hp] at hit
    | true =>
      rw [poffPower, hp, if_pos rfl] at hit ⊢
      match hm : k - (writeRegisters p.transport poffWords).length with
      | 0 =>
        rw [hm] at hit
        cases hit
        exact .inr (.inl rfl)
      | 1 =>
        rw [hm] at hit
        cases hit
        refine .inr (.inr ⟨rfl, rfl, ?_⟩)
        rw [List.length_append, List.length_cons, List.length_singleton]
        omega
      | m + 2 =>
        rw [hm] at hit
        cases hit

theorem exec_poff_frame {a b : Byte} {s t : State} (h : exec (.poff a b) s = .next t) :
    PowerFrameEnd (s.params.hasPwr = true) s t := by
  have hs : PowerFrame s s := ⟨rfl, rfl, rfl, fun _ _ => rfl⟩
  have hlen {k : Nat} {it : Item} (hit : (poffItems s.params)[k]? = some it) : k < (poffItems s.params).length :=
    lt_length_of_getElem? hit
  have hback {k : Nat} {u : State} (hk : k < (poffItems s.params).length)
      (hu : PowerFrame s u ∨ (poffItems s.params).length ≤ k ∧ PowerFrameEnd (s.params.hasPwr = true) s u) :
      PowerFrame s u := hu.resolve_right fun hu => by omega
  refine exec_record_at (Q := PowerFrameEnd (s.params.hasPwr = true) s)
    (R := fun k u => PowerFrame s u ∨ (poffItems s.params).length ≤ k ∧ PowerFrameEnd (s.params.hasPwr = true) s u)
    (fun k u v huv hu => ?_) (onRecord_powerFrameEnd _ s) (fun hit _ hu => ?_) (fun hit hu => ?_)
    (fun hu => hu.elim (·.toEnd _) (·.2)) (fun _ => .inl hs) (fun _ _ _ => .inl hs) (fun _ _ _ => hs.toEnd _)
    (fun _ => hs.toEnd _) h
  · exact hu.imp (onRecord_powerFrame s huv) (And.imp_right (onRecord_powerFrameEnd _ s huv))
  · have hu := hback (hlen hit) hu
    obtain hmem | rfl | ⟨rfl, hp, hk⟩ := poffItems_at hit
    · exact .inl (powerFrame_of_mem_poffWords hmem hu).1
    · exact .inl hu
    · exact .inr ⟨hk.ge, { hu with preg := fun _ _ => .inr ⟨hp, rfl⟩ }⟩
  · have hu := hback (hlen hit) hu
    obtain hmem | rfl | ⟨rfl, -, -⟩ := poffItems_at hit
    · exact (powerFrame_of_mem_poffWords hmem hu).2.toEnd _
    · exact hu.toEnd _
    · exact hu.toEnd _

/-- Settles O49: the shadows and the panel image by `exec_pon_frame` and `exec_poff_frame`, the lines by what the commands'
lists drive. -/
theorem powerCommandFrame : Obligations.PowerCommandFrame := by
  intro i hi s t h
  obtain ⟨hp, hop, ha, hb, hhost, hrest⟩ := exec_sameCommand h
  have hline {id : LineId} (hcs : id ≠ .cs) (hid : ∀ level, .setLine id level ∉ commandEvents s.params i) :=
    exec_line hcs hid h
  have hmem (level : Level) : .setLine .data level ∉ commandEvents s.params i ∧
      .setLine .clk level ∉ commandEvents s.params i ∧ .setLine .rst level ∉ commandEvents s.params i := by
    obtain ⟨a, b, rfl⟩ | ⟨a, b, rfl⟩ := hi
    · rw [commandEvents_pon]
      split <;> simp [wordEvents]
    · rw [commandEvents_poff]
      split <;> simp [wordEvents]
  have hframe : t.lum = s.lum ∧ t.orbH = s.orbH ∧ t.orbV = s.orbV ∧ ∀ x : Byte, x ≠ 0x00 →
      t.preg.read x = s.preg.read x ∨ (s.params.hasPwr = true ∧ (∃ a b, i = .poff a b) ∧ t.preg = []) := by
    obtain ⟨a, b, rfl⟩ | ⟨a, b, rfl⟩ := hi
    · obtain ⟨hlum, horbH, horbV, hpreg⟩ := exec_pon_frame h
      exact ⟨hlum, horbH, horbV, fun x hx => .inl (hpreg x hx)⟩
    · obtain ⟨hlum, horbH, horbV, hpreg⟩ := exec_poff_frame h
      exact ⟨hlum, horbH, horbV, fun x hx => (hpreg x hx).imp_right fun hlost => ⟨hlost.1, ⟨a, b, rfl⟩, hlost.2⟩⟩
  obtain ⟨hlum, horbH, horbV, hpreg⟩ := hframe
  refine ⟨hp, hop, ha, hb, hlum, horbH, horbV, hhost, hrest, hline (id := .data) nofun fun level => (hmem level).1,
    hline (id := .clk) nofun fun level => (hmem level).2.1, hline (id := .rst) nofun fun level => (hmem level).2.2,
    fun hpwr => hline (id := .pwr) nofun fun level he => ?_, exec_trace h, hpreg⟩
  have hexists := (lineExists_of_mem he).2.2 level rfl
  rw [hpwr] at hexists
  cases hexists

/-! ### The frame of INIT (R164, R166) -/

/-- INIT's end: ACTIVE, the default shadows, and the panel image the burst leaves. -/
structure State.PanelInitialisedBy (p : Params) (s : State) : Prop where
  pstate : s.pstate = .active
  lum : s.lum = some 15
  orbH : s.orbH = some 0
  orbV : s.orbV = some 0
  preg : s.preg = burstImage p.burstMap

/-- Before the reset assertion: shadows and `pstate` are the same, and the panel image but that a command carried on may lose
it. -/
structure InitUntouched (s t : State) : Prop where
  pstate : t.pstate = s.pstate
  lum : t.lum = s.lum
  orbH : t.orbH = s.orbH
  orbV : t.orbV = s.orbV
  preg : t.preg = s.preg ∨ s.busy = true ∧ t.preg = []

/-- Where INIT's writes can stand at all. -/
def InitStage (s t : State) : Prop := InitUntouched s t ∨ t.PanelInReset ∨ t.PanelInitialisedBy s.params

/-- Where they can stand before event `k`: a command begun at its beginning has reset the panel after the reset assertion,
and only INIT's last event initialises it. -/
def InitStageAt (s : State) (k : Nat) (t : State) : Prop :=
  (InitUntouched s t ∧ (k ≤ initResetPosition s.params ∨ s.busy = true)) ∨ t.PanelInReset ∨
    ((initItems s.params).length ≤ k ∧ t.PanelInitialisedBy s.params)

theorem onRecord_initUntouched (s : State) : OnRecord (InitUntouched s) := by
  rintro u v ⟨h1, h2, h3, h4, h5⟩ ⟨g1, g2, g3, g4, g5⟩
  exact ⟨h4.trans g1, h1.trans g2, h2.trans g3, h3.trans g4, h5 ▸ g5⟩

theorem onRecord_panelInReset : OnRecord State.PanelInReset := SameRecord.panelInReset

theorem onRecord_panelInitialisedBy (p : Params) : OnRecord (State.PanelInitialisedBy p) := by
  rintro u v ⟨h1, h2, h3, h4, h5⟩ ⟨g1, g2, g3, g4, g5⟩
  exact ⟨h4.trans g1, h1.trans g2, h2.trans g3, h3.trans g4, h5.trans g5⟩

theorem onRecord_initStage (s : State) : OnRecord (InitStage s) := fun huv hu =>
  hu.imp (onRecord_initUntouched s huv) (Or.imp (onRecord_panelInReset huv) (onRecord_panelInitialisedBy _ huv))

theorem onRecord_initStageAt (s : State) (k : Nat) : OnRecord (InitStageAt s k) := fun huv hu =>
  hu.imp (And.imp_left (onRecord_initUntouched s huv))
    (Or.imp (onRecord_panelInReset huv) (And.imp_right (onRecord_panelInitialisedBy _ huv)))

theorem InitStageAt.stage {s t : State} {k : Nat} (h : InitStageAt s k t) : InitStage s t :=
  h.imp And.left (Or.imp_right And.right)

theorem InitUntouched.refl (s : State) : InitUntouched s s := ⟨rfl, rfl, rfl, rfl, .inl rfl⟩

/-- The panel image is lost while a command is carried on, or nothing is written. -/
theorem InitUntouched.write {s u : State} (h : InitUntouched s u) (hb : s.busy = true) {f : State → State}
    (hf : f = id ∨ f = State.panelLost) : InitUntouched s (f u) := by
  obtain rfl | rfl := hf
  · exact h
  · exact { h with preg := .inr ⟨hb, rfl⟩ }

/-- Before an event of the list the panel is not initialised yet. -/
theorem InitStageAt.of_lt {s u : State} {k : Nat} (h : InitStageAt s k u) (hk : k < (initItems s.params).length) :
    (InitUntouched s u ∧ (k ≤ initResetPosition s.params ∨ s.busy = true)) ∨ u.PanelInReset :=
  h.imp_right fun h => h.resolve_right fun h => by omega

theorem InitStageAt.ack {s u : State} {k : Nat} {it : Item} (hit : (initItems s.params)[k]? = some it)
    (hp : u.params = s.params) (hu : InitStageAt s k u) : InitStageAt s (k + 1) (it.onAck u) := by
  have hlt := hu.of_lt (lt_length_of_getElem? hit)
  obtain ⟨hk, hack, -⟩ | ⟨hk, hack, -⟩ | ⟨hk, -, hack, -⟩ | ⟨-, hk, hack, -⟩ := initItems_at hit
  · rw [hack]
    exact hlt.imp (fun h => ⟨h.1, .inl hk⟩) .inl
  · rw [hack]
    exact .inr (.inl (panelInReset_panelReset u))
  · obtain ⟨hu, hk' | hb⟩ | hu := hlt
    · omega
    · exact .inl ⟨hu.write hb hack, .inr hb⟩
    · exact .inr (.inl (hu.write hack))
  · rw [hack]
    exact .inr (.inr ⟨hk.ge, rfl, rfl, rfl, rfl, by rw [State.panelInitialised_preg, hp]⟩)

theorem InitStageAt.fault {s u : State} {k : Nat} {it : Item} (hit : (initItems s.params)[k]? = some it)
    (hu : InitStageAt s k u) : InitStage s (it.onFault u) := by
  have hcut (hk : initResetPosition s.params < k) (hfault : it.onFault = id ∨ it.onFault = State.panelLost) :
      InitStage s (it.onFault u) := by
    obtain ⟨hu, hk' | hb⟩ | hu := hu.of_lt (lt_length_of_getElem? hit)
    · omega
    · exact .inl (hu.write hb hfault)
    · exact .inr (.inl (hu.write hfault))
  obtain ⟨-, -, hfault⟩ | ⟨-, -, hfault⟩ | ⟨hk, -, -, hfault⟩ | ⟨hk, -, -, hfault⟩ := initItems_at hit
  · exact hfault ▸ hu.stage
  · exact hfault ▸ hu.stage
  · exact hcut hk hfault
  · exact hcut hk (.inr hfault)

theorem exec_init_stage {a b : Byte} {s t : State} (h : exec (.init a b) s = .next t) : InitStage s t :=
  exec_record_at (onRecord_initStageAt s) (onRecord_initStage s) InitStageAt.ack InitStageAt.fault InitStageAt.stage
    (fun _ => .inl ⟨.refl s, .inl (Nat.zero_le _)⟩) (fun _ hb _ => .inl ⟨.refl s, .inr hb⟩) (fun _ _ _ => .inl (.refl s))
    (fun _ => .inl (.refl s)) h

/-- Settles O50: the record by `exec_init_stage`, the lines by what INIT's list drives. -/
theorem initFrame : Obligations.InitFrame := by
  intro a b s t h
  obtain ⟨hp, hop, ha, hb, hhost, hrest⟩ := exec_sameCommand h
  have hline {id : LineId} (hcs : id ≠ .cs) (hid : ∀ level, .setLine id level ∉ commandEvents s.params (.init a b)) :=
    exec_line hcs hid h
  have hexists {e : Event} (he : e ∈ commandEvents s.params (.init a b)) := lineExists_of_mem he
  refine ⟨hp, hop, ha, hb, hhost, hrest, fun ht => ⟨hline (id := .data) nofun fun level he => ?_,
    hline (id := .clk) nofun fun level he => ?_⟩, fun hpwr => hline (id := .pwr) nofun fun level he => ?_,
    exec_trace h, ?_⟩
  · have hbb := (hexists he).1 level rfl
    rw [ht] at hbb
    cases hbb
  · have hbb := (hexists he).2.1 level rfl
    rw [ht] at hbb
    cases hbb
  · have hhas := (hexists he).2.2 level rfl
    rw [hpwr] at hhas
    cases hhas
  · obtain ⟨hq, hlum, horbH, horbV, hpreg⟩ | ⟨hq, hlum, horbH, horbV, hpreg⟩ | ⟨hq, hlum, horbH, horbV, hpreg⟩ :=
      exec_init_stage h
    · exact .inl ⟨hq, hlum, horbH, horbV, hpreg⟩
    · exact .inr (.inl ⟨hq, hlum, horbH, horbV, hpreg⟩)
    · exact .inr (.inr ⟨hq, hlum, horbH, horbV, hpreg⟩)

end Sys2Proof.Machine
end
